-- ==== Sys2Proof/Word.lean ====
section
/-! DEFINITION. The units of data of R13 that the model names, and nothing else. -/

namespace Sys2Proof

/-- A word: 128 bits, bit 0 least significant (R11, R13). -/
abbrev Word := BitVec 128

/-- A semi-word: 64 bits (R13). -/
abbrev SemiWord := BitVec 64

/-- An octet: 8 bits (R13). -/
abbrev Octet := BitVec 8

end Sys2Proof
end

