-- ==== Sys2Proof/Syntax.lean ====
section
/-! DEFINITION. The whole syntax: instruction words, packages, the operand descriptors of the classes
the spec names, and `Instr`, one constructor per row of spec/opcode_table.json. -/

namespace Sys2Proof

/-! ### Lengths and bits of instructions and parts (30_encoding.md) -/

/-- An instruction as the decoder meets it: its length and its bits (R120, R132). -/
inductive InstrWord where
  | w30 (b : BitVec 30)
  | w40 (b : BitVec 40)
  | w50 (b : BitVec 50)
  | w60 (b : BitVec 60)
  deriving DecidableEq, Repr

/-- The length in bits of the leading or trailing part of a spanned instruction; `none` for no part (R123). -/
inductive PartLen where
  | none | ten | twenty | thirty | forty | fifty
  deriving DecidableEq, Repr

/-- The number of bits a part length stands for. -/
def PartLen.bits : PartLen → Nat
  | .none => 0 | .ten => 10 | .twenty => 20 | .thirty => 30 | .forty => 40 | .fifty => 50

/-- The bits of an L or T sub-field; `none` where the format has no such sub-field (R123). -/
inductive SpanPart where
  | none
  | p10 (b : BitVec 10)
  | p20 (b : BitVec 20)
  | p30 (b : BitVec 30)
  | p40 (b : BitVec 40)
  | p50 (b : BitVec 50)
  deriving DecidableEq, Repr

/-- The length of a part. -/
def SpanPart.len : SpanPart → PartLen
  | .none => .none | .p10 _ => .ten | .p20 _ => .twenty | .p30 _ => .thirty | .p40 _ => .forty | .p50 _ => .fifty

/-- The Zero sub-field as it stands in a package word (R123, R131). -/
inductive ZeroPart where
  | none
  | z10 (b : BitVec 10)
  | z20 (b : BitVec 20)
  deriving DecidableEq, Repr

/-- The Zero sub-field is absent or holds zeros, as R131 demands. -/
def ZeroPart.isZero : ZeroPart → Bool
  | .none => true
  | .z10 b => b == 0#10
  | .z20 b => b == 0#20

/-- The sub-fields of one package, from the low-order end: T, the whole instructions I:0 upward, L, Z (R124, R125). -/
structure Package where
  trail : SpanPart
  whole : List InstrWord
  lead : SpanPart
  zero : ZeroPart
  deriving DecidableEq, Repr

/-- What `Advance()` needs of a package's format: `n`, the numbered instructions, and `l`, the length of the
leading part (R126, R174). -/
structure Shape where
  n : Nat
  l : PartLen
  deriving DecidableEq, Repr

/-- n and l of R126. -/
def Package.shape (p : Package) : Shape :=
  { n := p.whole.length + (if p.lead.len = .none then 0 else 1), l := p.lead.len }

/-- What stands at a numbered sub-field (R128). -/
inductive Slot where
  | whole (w : InstrWord)
  | leading (l : SpanPart)
  deriving DecidableEq, Repr

/-- `slot(P, k)` of R128: whole instructions are numbered first, the leading part takes the next number. -/
def Package.slot (p : Package) (k : Nat) : Option Slot :=
  match p.whole[k]? with
  | some w => some (.whole w)
  | none => if k = p.whole.length ∧ p.lead.len ≠ .none then some (.leading p.lead) else none

/-! ### Registers and operands (10_state.md, 43_vector.md)

Part I gives no operand of any instruction (91_not_in_source.md N1, N2). The descriptors below are the model's own way of
writing down what an implementation's ISET supplies (log 10). -/

/-- A register or semi-register (R24, R25, R31, R32). -/
inductive Reg where
  | gpr (g : Fin 64)
  | sgpr (s : Fin 128)
  | rnr (r : Fin 64)
  | srnr (s : Fin 128)
  deriving DecidableEq, Repr

/-- The size of a register in bits. -/
def Reg.width : Reg → Nat
  | .gpr _ => 128 | .sgpr _ => 64 | .rnr _ => 128 | .srnr _ => 64

/-- A 128-bit register, the operand of word accesses and vector instructions (R217, R230, R251). That no SGPR or SRNR is a vector
operand of a vector instruction is a DESIGN CHOICE: R230 leaves 64-bit vectors open (log 39). -/
inductive WideReg where
  | gpr (g : Fin 64)
  | rnr (r : Fin 64)
  deriving DecidableEq, Repr

/-- A 128-bit register as a register. -/
def WideReg.toReg : WideReg → Reg
  | .gpr g => .gpr g
  | .rnr r => .rnr r

/-- The destination of a carry-producing instruction: 129-bit results for a GPR, 65-bit for an SGPR (R214). An RNR or SRNR is none:
DESIGN CHOICE, since whether a CR can be written by such a destination is not in source (R214; log 47). -/
inductive CarryDest where
  | gpr (g : Fin 64)
  | sgpr (s : Fin 128)
  deriving DecidableEq, Repr

/-- A source operand: a register, a value in the instruction, a carry register, or the address of the instruction's package. No
instruction reads IIDX (R36, D13). -/
inductive Operand where
  | reg (r : Reg)
  | imm (v : Word)
  | carry (i : Fin 128)
  | ipmar
  deriving DecidableEq, Repr

/-- An address computation: base + index * 2**scale + disp modulo 2**128 (R62, R256), or another one that the
implementation defines (its number and the operands it consumes). -/
inductive Address where
  | sum (base index : Operand) (scale : Fin 8) (disp : Word)
  | implementation (k : Nat) (a b : Operand)
  deriving DecidableEq, Repr

/-- How a result narrower than its register is extended; not in source, so ISET says which (R200, R252). `keep` leaves the
bits above the result as they were; `implementation k` is any other rule. -/
inductive Extend where
  | zero
  | sign
  | keep
  | implementation (k : Nat)
  deriving DecidableEq, Repr

/-- The units of data by which octet-addressed memory is accessed (R13, R92). -/
inductive UnitSize where
  | octet | biOctet | quadrantWord | semiWord | word
  deriving DecidableEq, Repr

/-- The size of a unit in octets (R70). -/
def UnitSize.octets : UnitSize → Nat
  | .octet => 1 | .biOctet => 2 | .quadrantWord => 4 | .semiWord => 8 | .word => 16

/-- The four vector types of the base architecture (R230). -/
inductive VecType where
  | v2 | v4 | v8 | v16
  deriving DecidableEq, Repr

/-- n(T): the number of elements (R230). -/
def VecType.count : VecType → Nat
  | .v2 => 2 | .v4 => 4 | .v8 => 8 | .v16 => 16

/-- e(T): the size of an element in bits (R230). -/
def VecType.elemBits : VecType → Nat
  | .v2 => 64 | .v4 => 32 | .v8 => 16 | .v16 => 8

/-- The 'T' field of a vector instruction (R134, R232). -/
def VecType.ofField (t : BitVec 2) : VecType :=
  match t.toNat with
  | 0 => .v2
  | 1 => .v4
  | 2 => .v8
  | _ => .v16

/-- How a two-valued outcome is reported to the program (R201 and R259 say only that the form is not in source; log 10): two
values of a register, one bit of a register, a CR, a branch, or another form that writes a register. Only CR[0..63] can take a
report: R30 gives CR[64..127] no other write than those of R28 and R29. -/
inductive Report where
  | register (dst : Reg) (yes no : Word)
  | bit (dst : Reg) (n : Fin 128)
  | carry (i : Fin 64)
  | transferIf (sense : Bool) (target : Address)
  | implementation (k : Nat) (dst : Reg)
  deriving DecidableEq, Repr

/-- How an instruction says what its vector type is: in a 2-bit 'T' field, or otherwise, since "some vector instructions" only
have the field (R232). -/
inductive TypeField where
  | field (t : BitVec 2)
  | fixed (t : VecType)
  deriving DecidableEq, Repr

/-- The vector type an instruction has (R232). -/
def TypeField.type : TypeField → VecType
  | .field t => VecType.ofField t
  | .fixed t => t

/-- The seven abstract exception identifiers, in the source's order (R310). -/
inductive ExcId where
  | insufficientPrivilege
  | invalidInstruction
  | invalidInstructionPackage
  | invalidInstructionPackageFormat
  | invalidSpannedInstruction
  | unalignedElementSelect
  | unalignedPrimaryMemoryAddress
  deriving DecidableEq, Repr

/-! ### The named instructions and classes

`priv` is the privilege level ISET gives the instruction (R163, R300); it is not in source for any of them but the
interrupt-sending and the privileged-state instructions, which therefore have no such field. -/

/-- The AVI-obtaining instruction (R200). -/
structure AviObtain where
  priv : Nat
  dst : Reg
  ext : Extend
  deriving DecidableEq, Repr

/-- The AE-query instruction (R201): the AEN and the AEI are the low-order 64 bits of two operands, DESIGN CHOICE (log 38). -/
structure AeQuery where
  priv : Nat
  aen : Operand
  aei : Operand
  report : Report
  deriving DecidableEq, Repr

/-- What a carry-producing instruction computes. R214 names the sum as an example; the difference is that of
95_test_vectors.md; every other operation is the implementation's. -/
inductive CarryOp where
  | sum
  | difference
  | implementation (k : Nat)
  deriving DecidableEq, Repr

/-- The carry-producing integer instructions (R214). With an SGPR destination the sources are their low-order 64 bits, DESIGN CHOICE
(log 38). -/
structure IntegerCarry where
  priv : Nat
  dst : CarryDest
  op : CarryOp
  a : Operand
  b : Operand
  carryIn : Option (Fin 128)
  deriving DecidableEq, Repr

/-- Results without a carry: a copy, the shifts by four that R67 and R218 speak of in general form, or another
operation of the implementation. -/
inductive ScalarOp where
  | copy
  | shiftLeft (n : Fin 128)
  | shiftRight (n : Fin 128)
  | implementation (k : Nat)
  deriving DecidableEq, Repr

/-- An integer or bit-set instruction that produces no carry (R28, R29 last paragraph, R218). It is no row of the table:
only ISET can present one (log 33). The whole destination is replaced: what an 8-, 16- or 32-bit scalar instruction leaves in the rest
of its register is not in source (R217), DESIGN CHOICE (log 38). -/
structure ScalarResult where
  priv : Nat
  dst : Reg
  op : ScalarOp
  a : Operand
  b : Operand
  deriving DecidableEq, Repr

/-- The element operation of a vector instruction: the illustrative wrapping sum of R233, or the implementation's. -/
inductive VecOp where
  | wrappingSum
  | implementation (k : Nat)
  deriving DecidableEq, Repr

/-- The second operand of a vector instruction: a vector, or a scalar of which the low e(T) bits, or what the
implementation makes of it, meet every element (R233, R234, R236). -/
inductive VecSource where
  | vector (r : WideReg)
  | scalarLow (o : Operand)
  | scalarImplementation (k : Nat) (o : Operand)
  deriving DecidableEq, Repr

/-- The vector instructions (R233). -/
structure VectorClass where
  priv : Nat
  typeField : TypeField
  dst : WideReg
  op : VecOp
  a : WideReg
  b : VecSource
  deriving DecidableEq, Repr

/-- The vector type of a vector instruction. -/
def VectorClass.type (o : VectorClass) : VecType := o.typeField.type

/-- What an element select is: an element's number, an offset in octets, or something of the implementation's (R240, R242:
the form and the condition of UNALIGNED ELEMENT SELECT are not in source). -/
inductive SelectForm where
  | index
  | octetOffset
  | implementation (k : Nat)
  deriving DecidableEq, Repr

/-- The element extraction instructions (R240). -/
structure ElementExtract where
  priv : Nat
  typeField : TypeField
  form : SelectForm
  dst : Reg
  ext : Extend
  src : Reg
  select : Operand
  deriving DecidableEq, Repr

/-- The vector type of an element extraction. -/
def ElementExtract.type (o : ElementExtract) : VecType := o.typeField.type

/-- The element deposition instructions (R241). -/
structure ElementDeposit where
  priv : Nat
  typeField : TypeField
  form : SelectForm
  dst : Reg
  value : Operand
  select : Operand
  deriving DecidableEq, Repr

/-- The vector type of an element deposition. -/
def ElementDeposit.type (o : ElementDeposit) : VecType := o.typeField.type

/-- A word-sized load (R251). -/
structure LoadWord where
  priv : Nat
  dst : WideReg
  addr : Address
  deriving DecidableEq, Repr

/-- A word-sized store (R253). -/
structure StoreWord where
  priv : Nat
  src : WideReg
  addr : Address
  deriving DecidableEq, Repr

/-- An octet-addressed load (R252). -/
structure LoadOctet where
  priv : Nat
  size : UnitSize
  dst : Reg
  ext : Extend
  addr : Address
  deriving DecidableEq, Repr

/-- An octet-addressed store (R254). -/
structure StoreOctet where
  priv : Nat
  size : UnitSize
  src : Reg
  addr : Address
  deriving DecidableEq, Repr

/-- What a MEMORY BARRIER is "specified" to order: which of the accesses before it and after it (R258, N17). All four true
is the one form the spec knows. -/
structure BarrierSel where
  readsBefore : Bool
  writesBefore : Bool
  readsAfter : Bool
  writesAfter : Bool
  deriving DecidableEq, Repr

/-- The unrestricted barrier (R258). -/
def BarrierSel.full : BarrierSel := ⟨true, true, true, true⟩

/-- MEMORY BARRIER (R258). -/
structure MemoryBarrier where
  priv : Nat
  sel : BarrierSel
  deriving DecidableEq, Repr

/-- Where a STORE ATOMIC writes; whether it is word- or octet-addressed is not in source (R259). -/
inductive AtomicTarget where
  | word (addr : Address)
  | octets (size : UnitSize) (addr : Address)
  deriving DecidableEq, Repr

/-- STORE ATOMIC (R259); `condition` numbers the implementation's "necessary conditions"; the outcome is reported, or not. -/
structure StoreAtomic where
  priv : Nat
  src : Reg
  target : AtomicTarget
  condition : Nat
  report : Option Report
  deriving DecidableEq, Repr

/-- The condition of a control flow instruction; which exist is not in source (R270). -/
inductive Condition where
  | always
  | nonzero (o : Operand)
  | zero (o : Operand)
  | implementation (k : Nat) (a b : Operand)
  deriving DecidableEq, Repr

/-- The control flow instructions (R270). -/
structure ControlFlow where
  priv : Nat
  cond : Condition
  target : Address
  deriving DecidableEq, Repr

/-- The internal-interrupt-generating instructions (R272). That they pass the handler no argument is a DESIGN CHOICE: R272 leaves
that open, and registers reach the handler unchanged in any case (log 40). -/
structure InternalInterrupt where
  priv : Nat
  level : Nat
  deriving DecidableEq, Repr

/-- What a sent interrupt is addressed to (R46, R273). -/
inductive DestKind where
  | processor | agent
  deriving DecidableEq, Repr

/-- The interrupt-sending instructions (R273); their privilege level is PL_MAX. -/
structure SendInterrupt where
  kind : DestKind
  address : Operand
  deriving DecidableEq, Repr

/-- The NULL instruction (R274). -/
structure NullOp where
  priv : Nat
  deriving DecidableEq, Repr

/-- The fields of ISAVE[p] (R43), which ESAVE[p] has too (R42). -/
inductive ResumeField where
  | opl | ipmar | iidx
  deriving DecidableEq, Repr

/-- The fields of ESAVE[p] (R42). -/
inductive SaveField where
  | resume (f : ResumeField)
  | ceid
  deriving DecidableEq, Repr

/-- The privileged state that instructions can reach (R275, R333): XPEND is not among it. -/
inductive PrivField where
  | eha (p : Nat)
  | iha (p : Nat)
  | esave (p : Nat) (f : SaveField)
  | isave (p : Nat) (f : ResumeField)
  | xie
  | opl
  deriving DecidableEq, Repr

/-- The operations on privileged state that a complete system has (R275, R333, R325, R334, R108). -/
inductive PrivOp where
  | setEha (p : Nat) (src : Operand)
  | setIha (p : Nat) (src : Operand)
  | readEsave (p : Nat) (f : SaveField) (dst : WideReg)
  | writeEsave (p : Nat) (f : SaveField) (src : Operand)
  | readIsave (p : Nat) (f : ResumeField) (dst : WideReg)
  | writeIsave (p : Nat) (f : ResumeField) (src : Operand)
  | exceptionReturn (p : Nat)
  | interruptReturn (p : Nat)
  | setXie (on : Bool)
  | lowerOpl (q : Nat) (target : Option Address)
  | enforceCoherence
  deriving DecidableEq, Repr

/-- The instructions on privileged state (R275). -/
structure PrivilegedState where
  op : PrivOp
  deriving DecidableEq, Repr

/-! ### Other instructions of ISET (R163)

`ISET.exec` may be any function of the processor's state that reaches memory through the primitives of R90 and R91, the operations on
privileged state among it. What no class above covers (several destinations, more than two sources, a link, a load and a store in one, a
return that sets XIE) is written as actions over numbered values (log 42). -/

/-- One action of a composite instruction. A number names a value: the sources come first, then what each `compute`, `load`, `loadWord`
and `readPriv` gives, in order. -/
inductive Action where
  /-- A new value: the implementation's function number k of these values. -/
  | compute (k : Nat) (args : List Nat)
  /-- A new value: the unit at an octet address (R91). -/
  | load (size : UnitSize) (addr : Nat)
  /-- A new value: the word at a word address (R90). -/
  | loadWord (addr : Nat)
  | store (size : UnitSize) (addr value : Nat)
  | storeWord (addr value : Nat)
  | barrier (sel : BarrierSel)
  /-- A register takes a value; a semi-register its low-order half. -/
  | write (dst : Reg) (value : Nat)
  /-- A carry-producing write: a value, and bit 0 of another as the carry (R28, R29); to a GPR or SGPR only (log 47). -/
  | writeCarry (dst : CarryDest) (value carry : Nat)
  /-- The instruction ends with a transfer to this word address (R163). -/
  | transfer (target : Nat)
  /-- The instruction ends with an internal interrupt (R163). -/
  | internalInterrupt (level : Nat)
  /-- UNALIGNED ELEMENT SELECT, a precise exception: nothing is written, and no action follows (R163, R242, R305). Of the exceptions of
  R311 it is the one whose condition ISET has; the others come from decoding, the privilege check and the primitives of R91. -/
  | unalignedSelect
  /-- A new value: privileged state, zero-extended. -/
  | readPriv (f : PrivField)
  /-- Privileged state takes a value, XIE its bit 0. -/
  | writePriv (f : PrivField) (value : Nat)
  /-- The return of R325; the instruction ends where it leads. -/
  | exceptionReturn (p : Nat)
  /-- The return of R334. -/
  | interruptReturn (p : Nat)
  /-- Coherence of the instruction stream enforced (R108). -/
  | enforceCoherence
  /-- An interrupt of level PL_MAX sent (R273). -/
  | sendInterrupt (kind : DestKind) (address : Nat)
  deriving DecidableEq, Repr

/-- An action that is done always, or only if a value is nonzero, or only if it is zero. -/
structure GuardedAction where
  guard : Option (Nat × Bool)
  action : Action
  deriving DecidableEq, Repr

/-- An instruction of ISET that is none of the named classes. `element` marks a further form of element extraction or deposition (R240,
R241). Its privilege level is `priv` or that of the state it touches, whichever is higher. -/
structure Composite where
  priv : Nat
  element : Bool
  sources : List Operand
  actions : List GuardedAction
  deriving DecidableEq, Repr

/-- What an implementation's ISET may present for an instruction word: an instruction of one of the named classes, an integer or
bit-set instruction without carry, or any other as a composite. -/
inductive Op where
  | aviObtain (o : AviObtain)
  | aeQuery (o : AeQuery)
  | integerCarry (o : IntegerCarry)
  | vector (o : VectorClass)
  | elementExtract (o : ElementExtract)
  | elementDeposit (o : ElementDeposit)
  | loadWordAddressed (o : LoadWord)
  | storeWordAddressed (o : StoreWord)
  | loadOctetAddressed (o : LoadOctet)
  | storeOctetAddressed (o : StoreOctet)
  | memoryBarrier (o : MemoryBarrier)
  | storeAtomic (o : StoreAtomic)
  | controlFlow (o : ControlFlow)
  | internalInterrupt (o : InternalInterrupt)
  | sendInterrupt (o : SendInterrupt)
  | null (o : NullOp)
  | privilegedState (o : PrivilegedState)
  | scalar (o : ScalarResult)
  | composite (o : Composite)
  deriving DecidableEq, Repr

/-- To whom an instruction of ISET belongs: the base architecture, or the architecture extension with this AEN and AEI
(R4, R133). -/
inductive Owner where
  | base
  | extension (aen aei : BitVec 64)
  deriving DecidableEq, Repr

/-- One line of `ISET.decode`: this length and these bits are that instruction (R163). -/
structure IsetEntry where
  word : InstrWord
  owner : Owner
  op : Op
  deriving DecidableEq, Repr

/-! ### The opcode table -/

/-- One constructor per row of spec/opcode_table.json: the 157 package formats of R126 with their sub-fields from the
low-order end (a name ending in L is a leading part), the 32 pairs of length and primary operation code of R133 with the
instruction's other bits, and the seventeen rows the spec names without an encoding. -/
inductive Instr where
  | pkg0 (t : BitVec 10) (i0 : BitVec 30) (i1 : BitVec 30) (i2 : BitVec 30) (z : BitVec 20)
  | pkg1 (t : BitVec 10) (i0 : BitVec 30) (i1 : BitVec 30) (i2 : BitVec 30) (i3L : BitVec 20)
  | pkg2 (t : BitVec 10) (i0 : BitVec 30) (i1 : BitVec 30) (i2 : BitVec 40) (z : BitVec 10)
  | pkg3 (t : BitVec 10) (i0 : BitVec 30) (i1 : BitVec 30) (i2 : BitVec 40) (i3L : BitVec 10)
  | pkg4 (t : BitVec 10) (i0 : BitVec 30) (i1 : BitVec 30) (i2 : BitVec 50)
  | pkg5 (t : BitVec 10) (i0 : BitVec 30) (i1 : BitVec 30) (i2L : BitVec 50)
  | pkg6 (t : BitVec 10) (i0 : BitVec 30) (i1 : BitVec 40) (i2 : BitVec 30) (z : BitVec 10)
  | pkg7 (t : BitVec 10) (i0 : BitVec 30) (i1 : BitVec 40) (i2 : BitVec 30) (i3L : BitVec 10)
  | pkg8 (t : BitVec 10) (i0 : BitVec 30) (i1 : BitVec 40) (i2 : BitVec 40)
  | pkg9 (t : BitVec 10) (i0 : BitVec 30) (i1 : BitVec 40) (i2L : BitVec 40)
  | pkg10 (t : BitVec 10) (i0 : BitVec 30) (i1 : BitVec 50) (i2 : BitVec 30)
  | pkg11 (t : BitVec 10) (i0 : BitVec 30) (i1 : BitVec 50) (i2L : BitVec 30)
  | pkg12 (t : BitVec 10) (i0 : BitVec 30) (i1 : BitVec 60) (z : BitVec 20)
  | pkg13 (t : BitVec 10) (i0 : BitVec 30) (i1 : BitVec 60) (i2L : BitVec 20)
  | pkg14 (t : BitVec 10) (i0 : BitVec 40) (i1 : BitVec 30) (i2 : BitVec 30) (z : BitVec 10)
  | pkg15 (t : BitVec 10) (i0 : BitVec 40) (i1 : BitVec 30) (i2 : BitVec 30) (i3L : BitVec 10)
  | pkg16 (t : BitVec 10) (i0 : BitVec 40) (i1 : BitVec 30) (i2 : BitVec 40)
  | pkg17 (t : BitVec 10) (i0 : BitVec 40) (i1 : BitVec 30) (i2L : BitVec 40)
  | pkg18 (t : BitVec 10) (i0 : BitVec 40) (i1 : BitVec 40) (i2 : BitVec 30)
  | pkg19 (t : BitVec 10) (i0 : BitVec 40) (i1 : BitVec 40) (i2L : BitVec 30)
  | pkg20 (t : BitVec 10) (i0 : BitVec 40) (i1 : BitVec 50) (z : BitVec 20)
  | pkg21 (t : BitVec 10) (i0 : BitVec 40) (i1 : BitVec 50) (i2L : BitVec 20)
  | pkg22 (t : BitVec 10) (i0 : BitVec 40) (i1 : BitVec 60) (z : BitVec 10)
  | pkg23 (t : BitVec 10) (i0 : BitVec 40) (i1 : BitVec 60) (i2L : BitVec 10)
  | pkg24 (t : BitVec 10) (i0 : BitVec 50) (i1 : BitVec 30) (i2 : BitVec 30)
  | pkg25 (t : BitVec 10) (i0 : BitVec 50) (i1 : BitVec 30) (i2L : BitVec 30)
  | pkg26 (t : BitVec 10) (i0 : BitVec 50) (i1 : BitVec 40) (z : BitVec 20)
  | pkg27 (t : BitVec 10) (i0 : BitVec 50) (i1 : BitVec 40) (i2L : BitVec 20)
  | pkg28 (t : BitVec 10) (i0 : BitVec 50) (i1 : BitVec 50) (z : BitVec 10)
  | pkg29 (t : BitVec 10) (i0 : BitVec 50) (i1 : BitVec 50) (i2L : BitVec 10)
  | pkg30 (t : BitVec 10) (i0 : BitVec 50) (i1 : BitVec 60)
  | pkg31 (t : BitVec 10) (i0 : BitVec 60) (i1 : BitVec 30) (z : BitVec 20)
  | pkg32 (t : BitVec 10) (i0 : BitVec 60) (i1 : BitVec 30) (i2L : BitVec 20)
  | pkg33 (t : BitVec 10) (i0 : BitVec 60) (i1 : BitVec 40) (z : BitVec 10)
  | pkg34 (t : BitVec 10) (i0 : BitVec 60) (i1 : BitVec 40) (i2L : BitVec 10)
  | pkg35 (t : BitVec 10) (i0 : BitVec 60) (i1 : BitVec 50)
  | pkg36 (t : BitVec 10) (i0 : BitVec 60) (i1L : BitVec 50)
  | pkg37 (t : BitVec 20) (i0 : BitVec 30) (i1 : BitVec 30) (i2 : BitVec 30) (z : BitVec 10)
  | pkg38 (t : BitVec 20) (i0 : BitVec 30) (i1 : BitVec 30) (i2 : BitVec 30) (i3L : BitVec 10)
  | pkg39 (t : BitVec 20) (i0 : BitVec 30) (i1 : BitVec 30) (i2 : BitVec 40)
  | pkg40 (t : BitVec 20) (i0 : BitVec 30) (i1 : BitVec 30) (i2L : BitVec 40)
  | pkg41 (t : BitVec 20) (i0 : BitVec 30) (i1 : BitVec 40) (i2 : BitVec 30)
  | pkg42 (t : BitVec 20) (i0 : BitVec 30) (i1 : BitVec 40) (i2L : BitVec 30)
  | pkg43 (t : BitVec 20) (i0 : BitVec 30) (i1 : BitVec 50) (z : BitVec 20)
  | pkg44 (t : BitVec 20) (i0 : BitVec 30) (i1 : BitVec 50) (i2L : BitVec 20)
  | pkg45 (t : BitVec 20) (i0 : BitVec 30) (i1 : BitVec 60) (z : BitVec 10)
  | pkg46 (t : BitVec 20) (i0 : BitVec 30) (i1 : BitVec 60) (i2L : BitVec 10)
  | pkg47 (t : BitVec 20) (i0 : BitVec 40) (i1 : BitVec 30) (i2 : BitVec 30)
  | pkg48 (t : BitVec 20) (i0 : BitVec 40) (i1 : BitVec 30) (i2L : BitVec 30)
  | pkg49 (t : BitVec 20) (i0 : BitVec 40) (i1 : BitVec 40) (z : BitVec 20)
  | pkg50 (t : BitVec 20) (i0 : BitVec 40) (i1 : BitVec 40) (i2L : BitVec 20)
  | pkg51 (t : BitVec 20) (i0 : BitVec 40) (i1 : BitVec 50) (z : BitVec 10)
  | pkg52 (t : BitVec 20) (i0 : BitVec 40) (i1 : BitVec 50) (i2L : BitVec 10)
  | pkg53 (t : BitVec 20) (i0 : BitVec 40) (i1 : BitVec 60)
  | pkg54 (t : BitVec 20) (i0 : BitVec 50) (i1 : BitVec 30) (z : BitVec 20)
  | pkg55 (t : BitVec 20) (i0 : BitVec 50) (i1 : BitVec 30) (i2L : BitVec 20)
  | pkg56 (t : BitVec 20) (i0 : BitVec 50) (i1 : BitVec 40) (z : BitVec 10)
  | pkg57 (t : BitVec 20) (i0 : BitVec 50) (i1 : BitVec 40) (i2L : BitVec 10)
  | pkg58 (t : BitVec 20) (i0 : BitVec 50) (i1 : BitVec 50)
  | pkg59 (t : BitVec 20) (i0 : BitVec 50) (i1L : BitVec 50)
  | pkg60 (t : BitVec 20) (i0 : BitVec 60) (i1 : BitVec 30) (z : BitVec 10)
  | pkg61 (t : BitVec 20) (i0 : BitVec 60) (i1 : BitVec 30) (i2L : BitVec 10)
  | pkg62 (t : BitVec 20) (i0 : BitVec 60) (i1 : BitVec 40)
  | pkg63 (t : BitVec 20) (i0 : BitVec 60) (i1L : BitVec 40)
  | pkg64 (t : BitVec 30) (i0 : BitVec 30) (i1 : BitVec 30) (i2 : BitVec 30)
  | pkg65 (t : BitVec 30) (i0 : BitVec 30) (i1 : BitVec 30) (i2L : BitVec 30)
  | pkg66 (i0 : BitVec 30) (i1 : BitVec 30) (i2 : BitVec 30) (i3 : BitVec 30)
  | pkg67 (i0 : BitVec 30) (i1 : BitVec 30) (i2 : BitVec 30) (i3L : BitVec 30)
  | pkg68 (t : BitVec 30) (i0 : BitVec 30) (i1 : BitVec 40) (z : BitVec 20)
  | pkg69 (t : BitVec 30) (i0 : BitVec 30) (i1 : BitVec 40) (i2L : BitVec 20)
  | pkg70 (i0 : BitVec 30) (i1 : BitVec 30) (i2 : BitVec 40) (z : BitVec 20)
  | pkg71 (i0 : BitVec 30) (i1 : BitVec 30) (i2 : BitVec 40) (i3L : BitVec 20)
  | pkg72 (t : BitVec 30) (i0 : BitVec 30) (i1 : BitVec 50) (z : BitVec 10)
  | pkg73 (t : BitVec 30) (i0 : BitVec 30) (i1 : BitVec 50) (i2L : BitVec 10)
  | pkg74 (i0 : BitVec 30) (i1 : BitVec 30) (i2 : BitVec 50) (z : BitVec 10)
  | pkg75 (i0 : BitVec 30) (i1 : BitVec 30) (i2 : BitVec 50) (i3L : BitVec 10)
  | pkg76 (t : BitVec 30) (i0 : BitVec 30) (i1 : BitVec 60)
  | pkg77 (i0 : BitVec 30) (i1 : BitVec 30) (i2 : BitVec 60)
  | pkg78 (t : BitVec 30) (i0 : BitVec 40) (i1 : BitVec 30) (z : BitVec 20)
  | pkg79 (t : BitVec 30) (i0 : BitVec 40) (i1 : BitVec 30) (i2L : BitVec 20)
  | pkg80 (i0 : BitVec 30) (i1 : BitVec 40) (i2 : BitVec 30) (z : BitVec 20)
  | pkg81 (i0 : BitVec 30) (i1 : BitVec 40) (i2 : BitVec 30) (i3L : BitVec 20)
  | pkg82 (t : BitVec 30) (i0 : BitVec 40) (i1 : BitVec 40) (z : BitVec 10)
  | pkg83 (t : BitVec 30) (i0 : BitVec 40) (i1 : BitVec 40) (i2L : BitVec 10)
  | pkg84 (i0 : BitVec 30) (i1 : BitVec 40) (i2 : BitVec 40) (z : BitVec 10)
  | pkg85 (i0 : BitVec 30) (i1 : BitVec 40) (i2 : BitVec 40) (i3L : BitVec 10)
  | pkg86 (t : BitVec 30) (i0 : BitVec 40) (i1 : BitVec 50)
  | pkg87 (t : BitVec 30) (i0 : BitVec 40) (i1L : BitVec 50)
  | pkg88 (i0 : BitVec 30) (i1 : BitVec 40) (i2 : BitVec 50)
  | pkg89 (i0 : BitVec 30) (i1 : BitVec 40) (i2L : BitVec 50)
  | pkg90 (t : BitVec 30) (i0 : BitVec 50) (i1 : BitVec 30) (z : BitVec 10)
  | pkg91 (t : BitVec 30) (i0 : BitVec 50) (i1 : BitVec 30) (i2L : BitVec 10)
  | pkg92 (i0 : BitVec 30) (i1 : BitVec 50) (i2 : BitVec 30) (z : BitVec 10)
  | pkg93 (i0 : BitVec 30) (i1 : BitVec 50) (i2 : BitVec 30) (i3L : BitVec 10)
  | pkg94 (t : BitVec 30) (i0 : BitVec 50) (i1 : BitVec 40)
  | pkg95 (t : BitVec 30) (i0 : BitVec 50) (i1L : BitVec 40)
  | pkg96 (i0 : BitVec 30) (i1 : BitVec 50) (i2 : BitVec 40)
  | pkg97 (i0 : BitVec 30) (i1 : BitVec 50) (i2L : BitVec 40)
  | pkg98 (t : BitVec 30) (i0 : BitVec 60) (i1 : BitVec 30)
  | pkg99 (t : BitVec 30) (i0 : BitVec 60) (i1L : BitVec 30)
  | pkg100 (i0 : BitVec 30) (i1 : BitVec 60) (i2 : BitVec 30)
  | pkg101 (i0 : BitVec 30) (i1 : BitVec 60) (i2L : BitVec 30)
  | pkg102 (t : BitVec 40) (i0 : BitVec 30) (i1 : BitVec 30) (z : BitVec 20)
  | pkg103 (t : BitVec 40) (i0 : BitVec 30) (i1 : BitVec 30) (i2L : BitVec 20)
  | pkg104 (i0 : BitVec 40) (i1 : BitVec 30) (i2 : BitVec 30) (z : BitVec 20)
  | pkg105 (i0 : BitVec 40) (i1 : BitVec 30) (i2 : BitVec 30) (i3L : BitVec 20)
  | pkg106 (t : BitVec 40) (i0 : BitVec 30) (i1 : BitVec 40) (z : BitVec 10)
  | pkg107 (t : BitVec 40) (i0 : BitVec 30) (i1 : BitVec 40) (i2L : BitVec 10)
  | pkg108 (i0 : BitVec 40) (i1 : BitVec 30) (i2 : BitVec 40) (z : BitVec 10)
  | pkg109 (i0 : BitVec 40) (i1 : BitVec 30) (i2 : BitVec 40) (i3L : BitVec 10)
  | pkg110 (t : BitVec 40) (i0 : BitVec 30) (i1 : BitVec 50)
  | pkg111 (t : BitVec 40) (i0 : BitVec 30) (i1L : BitVec 50)
  | pkg112 (i0 : BitVec 40) (i1 : BitVec 30) (i2 : BitVec 50)
  | pkg113 (i0 : BitVec 40) (i1 : BitVec 30) (i2L : BitVec 50)
  | pkg114 (t : BitVec 40) (i0 : BitVec 40) (i1 : BitVec 30) (z : BitVec 10)
  | pkg115 (t : BitVec 40) (i0 : BitVec 40) (i1 : BitVec 30) (i2L : BitVec 10)
  | pkg116 (i0 : BitVec 40) (i1 : BitVec 40) (i2 : BitVec 30) (z : BitVec 10)
  | pkg117 (i0 : BitVec 40) (i1 : BitVec 40) (i2 : BitVec 30) (i3L : BitVec 10)
  | pkg118 (t : BitVec 40) (i0 : BitVec 40) (i1 : BitVec 40)
  | pkg119 (t : BitVec 40) (i0 : BitVec 40) (i1L : BitVec 40)
  | pkg120 (i0 : BitVec 40) (i1 : BitVec 40) (i2 : BitVec 40)
  | pkg121 (i0 : BitVec 40) (i1 : BitVec 40) (i2L : BitVec 40)
  | pkg122 (t : BitVec 40) (i0 : BitVec 50) (i1 : BitVec 30)
  | pkg123 (t : BitVec 40) (i0 : BitVec 50) (i1L : BitVec 30)
  | pkg124 (i0 : BitVec 40) (i1 : BitVec 50) (i2 : BitVec 30)
  | pkg125 (i0 : BitVec 40) (i1 : BitVec 50) (i2L : BitVec 30)
  | pkg126 (t : BitVec 40) (i0 : BitVec 60) (z : BitVec 20)
  | pkg127 (t : BitVec 40) (i0 : BitVec 60) (i1L : BitVec 20)
  | pkg128 (i0 : BitVec 40) (i1 : BitVec 60) (z : BitVec 20)
  | pkg129 (i0 : BitVec 40) (i1 : BitVec 60) (i2L : BitVec 20)
  | pkg130 (t : BitVec 50) (i0 : BitVec 30) (i1 : BitVec 30) (z : BitVec 10)
  | pkg131 (t : BitVec 50) (i0 : BitVec 30) (i1 : BitVec 30) (i2L : BitVec 10)
  | pkg132 (i0 : BitVec 50) (i1 : BitVec 30) (i2 : BitVec 30) (z : BitVec 10)
  | pkg133 (i0 : BitVec 50) (i1 : BitVec 30) (i2 : BitVec 30) (i3L : BitVec 10)
  | pkg134 (t : BitVec 50) (i0 : BitVec 30) (i1 : BitVec 40)
  | pkg135 (t : BitVec 50) (i0 : BitVec 30) (i1L : BitVec 40)
  | pkg136 (i0 : BitVec 50) (i1 : BitVec 30) (i2 : BitVec 40)
  | pkg137 (i0 : BitVec 50) (i1 : BitVec 30) (i2L : BitVec 40)
  | pkg138 (t : BitVec 50) (i0 : BitVec 40) (i1 : BitVec 30)
  | pkg139 (t : BitVec 50) (i0 : BitVec 40) (i1L : BitVec 30)
  | pkg140 (i0 : BitVec 50) (i1 : BitVec 40) (i2 : BitVec 30)
  | pkg141 (i0 : BitVec 50) (i1 : BitVec 40) (i2L : BitVec 30)
  | pkg142 (t : BitVec 50) (i0 : BitVec 50) (z : BitVec 20)
  | pkg143 (t : BitVec 50) (i0 : BitVec 50) (i1L : BitVec 20)
  | pkg144 (i0 : BitVec 50) (i1 : BitVec 50) (z : BitVec 20)
  | pkg145 (i0 : BitVec 50) (i1 : BitVec 50) (i2L : BitVec 20)
  | pkg146 (t : BitVec 50) (i0 : BitVec 60) (z : BitVec 10)
  | pkg147 (t : BitVec 50) (i0 : BitVec 60) (i1L : BitVec 10)
  | pkg148 (i0 : BitVec 50) (i1 : BitVec 60) (z : BitVec 10)
  | pkg149 (i0 : BitVec 50) (i1 : BitVec 60) (i2L : BitVec 10)
  | pkg150 (i0 : BitVec 60) (i1 : BitVec 30) (i2 : BitVec 30)
  | pkg151 (i0 : BitVec 60) (i1 : BitVec 30) (i2L : BitVec 30)
  | pkg152 (i0 : BitVec 60) (i1 : BitVec 40) (z : BitVec 20)
  | pkg153 (i0 : BitVec 60) (i1 : BitVec 40) (i2L : BitVec 20)
  | pkg154 (i0 : BitVec 60) (i1 : BitVec 50) (z : BitVec 10)
  | pkg155 (i0 : BitVec 60) (i1 : BitVec 50) (i2L : BitVec 10)
  | pkg156 (i0 : BitVec 60) (i1 : BitVec 60)
  | i30Popc0 (rest : BitVec 27)
  | i30Popc1 (rest : BitVec 27)
  | i30Popc2 (rest : BitVec 27)
  | i30Popc3 (rest : BitVec 27)
  | i30Popc4 (rest : BitVec 27)
  | i30Popc5 (rest : BitVec 27)
  | i30Popc6 (rest : BitVec 27)
  | i30Popc7 (rest : BitVec 27)
  | i40Popc0 (rest : BitVec 37)
  | i40Popc1 (rest : BitVec 37)
  | i40Popc2 (rest : BitVec 37)
  | i40Popc3 (rest : BitVec 37)
  | i40Popc4 (rest : BitVec 37)
  | i40Popc5 (rest : BitVec 37)
  | i40Popc6 (rest : BitVec 37)
  | i40Popc7 (rest : BitVec 37)
  | i50Popc0 (rest : BitVec 47)
  | i50Popc1 (rest : BitVec 47)
  | i50Popc2 (rest : BitVec 47)
  | i50Popc3 (rest : BitVec 47)
  | i50Popc4 (rest : BitVec 47)
  | i50Popc5 (rest : BitVec 47)
  | i50Popc6 (rest : BitVec 47)
  | i50Popc7 (rest : BitVec 47)
  | i60Popc0 (rest : BitVec 57)
  | i60Popc1 (rest : BitVec 57)
  | i60Popc2 (rest : BitVec 57)
  | i60Popc3 (rest : BitVec 57)
  | i60Popc4 (rest : BitVec 57)
  | i60Popc5 (rest : BitVec 57)
  | i60Popc6 (rest : BitVec 57)
  | i60Popc7 (rest : BitVec 57)
  | aviObtain (o : AviObtain)
  | aeQuery (o : AeQuery)
  | integerCarry (o : IntegerCarry)
  | vector (o : VectorClass)
  | elementExtract (o : ElementExtract)
  | elementDeposit (o : ElementDeposit)
  | loadWordAddressed (o : LoadWord)
  | storeWordAddressed (o : StoreWord)
  | loadOctetAddressed (o : LoadOctet)
  | storeOctetAddressed (o : StoreOctet)
  | memoryBarrier (o : MemoryBarrier)
  | storeAtomic (o : StoreAtomic)
  | controlFlow (o : ControlFlow)
  | internalInterrupt (o : InternalInterrupt)
  | sendInterrupt (o : SendInterrupt)
  | null (o : NullOp)
  | privilegedState (o : PrivilegedState)
  deriving DecidableEq, Repr

end Sys2Proof
end

