-- ==== Sys2Proof/Config.lean ====
section
/-! DEFINITION. What an implementation fixes (00_scope.md R10), as plain data, and the free values: constants without a
body, of which nothing can be proved, for everything the spec calls unpredictable or leaves to ISET. -/

namespace Sys2Proof

/-- The privilege levels of the exceptions (R311). That of INSUFFICIENT PRIVILEGE is OPL + 1, the others' 1 in the base architecture:
stated for three of them, by D8 for the other three. Extensions may raise them all (R314, U23): `insufficientPrivilege` lists the OPLs
at which that exception has another level, with the level. -/
structure ExcLevels where
  insufficientPrivilege : List (Nat × Nat) := []
  invalidInstruction : Nat := 1
  invalidInstructionPackage : Nat := 1
  invalidInstructionPackageFormat : Nat := 1
  invalidSpannedInstruction : Nat := 1
  unalignedElementSelect : Nat := 1
  unalignedPrimaryMemoryAddress : Nat := 1
  deriving DecidableEq, Repr

/-- The concrete exception identifiers (R313), by default the numbers of D6. -/
structure CeidMap where
  insufficientPrivilege : Nat := 1
  invalidInstruction : Nat := 2
  invalidInstructionPackage : Nat := 3
  invalidInstructionPackageFormat : Nat := 4
  invalidSpannedInstruction : Nat := 5
  unalignedElementSelect : Nat := 6
  unalignedPrimaryMemoryAddress : Nat := 7
  deriving DecidableEq, Repr

/-- `CEID` of R10: the concrete identifier of an abstract one. -/
def CeidMap.of (m : CeidMap) : ExcId → Nat
  | .insufficientPrivilege => m.insufficientPrivilege
  | .invalidInstruction => m.invalidInstruction
  | .invalidInstructionPackage => m.invalidInstructionPackage
  | .invalidInstructionPackageFormat => m.invalidInstructionPackageFormat
  | .invalidSpannedInstruction => m.invalidSpannedInstruction
  | .unalignedElementSelect => m.unalignedElementSelect
  | .unalignedPrimaryMemoryAddress => m.unalignedPrimaryMemoryAddress

/-- What becomes of an external interrupt that arrives while reception is disabled (`XPEND_POLICY` of R10, D18). -/
inductive XpendPolicy where
  | held | dropped
  deriving DecidableEq, Repr

/-- A memory consistency model stronger than the AMCM (`STRONGER_MCM` of R10, U22): which pairs of one initiator's accesses to any two
locations it keeps in program order besides; none by default. The form is a DESIGN CHOICE (log 44). -/
structure StrongerMcm where
  readRead : Bool := false
  readWrite : Bool := false
  writeRead : Bool := false
  writeWrite : Bool := false
  deriving DecidableEq, Repr

/-- The implementation parameters of R10 that are not state of their own (`BACKED` and `MEM_INIT` are: the fields `backing`
and `mem` of State). Their defaults are those of R10; the OPEN ones are the model's choice (logs 1 and 2). -/
structure Impl where
  /-- `N_MEM`: implemented memory-address bits (R77, D2). -/
  nMem : Nat := 128
  /-- `N_PROC`: implemented processor-address bits (D3). -/
  nProc : Nat := 128
  /-- `N_AGENT`: implemented agent-address bits (D3). -/
  nAgent : Nat := 128
  /-- The implemented memory-address bits of an agent that has fewer than the system, by the agent's number (R79). -/
  agentBits : List (Nat × Nat) := []
  /-- `NPROCS`: the processors of the system, this one being number 0 (D21). -/
  nProcs : Nat := 1
  /-- `NAGENTS`: the agents of the system (D21); OPEN. -/
  nAgents : Nat := 1
  /-- `STRONGER_MCM` (D21). -/
  stronger : StrongerMcm := {}
  /-- `PL_MAX`: the highest privilege level (D4). -/
  plMax : Nat := 1
  /-- `p_span`, `p_pkg` and the levels of the other exceptions (R311, D8). -/
  levels : ExcLevels := {}
  /-- `CEID` (R313, D6). -/
  ceid : CeidMap := {}
  /-- `AVI` (R200, D27). -/
  avi : BitVec 64 := 1#64
  /-- `AE_SET`: the (AEN, AEI) pairs reported as supported (R201, R202); OPEN. -/
  aeSet : List (BitVec 64 × BitVec 64) := []
  /-- `IFETCH_COHERENT` (R107, D20). -/
  ifetchCoherent : Bool := false
  /-- `XPEND_POLICY` (D18); OPEN. -/
  xpendPolicy : XpendPolicy := .held
  /-- How many interrupts can be pending; `none` for no bound (D18); OPEN. -/
  xpendCapacity : Option Nat := none
  /-- `ISET.decode` with `ISET.priv` and `ISET.exec` in its operations (R163, D1); OPEN. -/
  iset : List IsetEntry := []
  deriving DecidableEq, Repr

/-- The level of INSUFFICIENT PRIVILEGE at an operating privilege level: OPL + 1, or what an extension redefined it to "to a higher
level" (R302, R311, R314). -/
def ExcLevels.insufficientAt (l : ExcLevels) (opl : Nat) : Nat :=
  match l.insufficientPrivilege.find? fun p => p.1 == opl with
  | some p => max (opl + 1) p.2
  | none => opl + 1

/-- The level of an exception raised at an operating privilege level (R311). -/
def Impl.levelOf (c : Impl) (opl : Nat) : ExcId → Nat
  | .insufficientPrivilege => c.levels.insufficientAt opl
  | .invalidInstruction => c.levels.invalidInstruction
  | .invalidInstructionPackage => c.levels.invalidInstructionPackage
  | .invalidInstructionPackageFormat => c.levels.invalidInstructionPackageFormat
  | .invalidSpannedInstruction => c.levels.invalidSpannedInstruction
  | .unalignedElementSelect => c.levels.unalignedElementSelect
  | .unalignedPrimaryMemoryAddress => c.levels.unalignedPrimaryMemoryAddress

namespace Config

/-! ### Free values: fresh at each occurrence (93_implementation_defined.md U1)

The argument is the count `State.free`, which each use advances (log 7). -/

/-- `unpredictable(128)`. -/
opaque freeWord : Nat → Word

/-- `unpredictable(1)`. -/
opaque freeBit : Nat → Bool

/-- A choice the spec leaves open: which pending interrupt is taken, or none (R332); which content a fetch sees (D20). -/
opaque freeChoice : Nat → Nat

/-! ### Free operations: what the absent ISET would define, as functions of the operands (D1)

`k` is the number the instruction's descriptor carries. -/

/-- The result of another carry-producing operation on `bits`-bit operands (R214); its low `bits + 1` bits count. -/
opaque carryResult : (k bits : Nat) → (a b : Word) → (carryIn : Bool) → BitVec 129

/-- The result of another integer or bit-set operation. -/
opaque scalarResult : (k : Nat) → (a b : Word) → Word

/-- The result of another element operation; it sees the two elements only, so elements stay independent (R230). -/
opaque vectorElem : (k : Nat) → VecType → (x y : BitVec 64) → BitVec 64

/-- What an implementation makes of a scalar operand before it meets the elements (R236). -/
opaque scalarElem : (k : Nat) → VecType → Word → BitVec 64

/-- The bits above an extended result (R200, R252). -/
opaque extension : (k n : Nat) → (v old : Word) → Word

/-- Another way of forming an address (R256, R270). -/
opaque address : (k : Nat) → (a b : Word) → Word

/-- Another condition of a control flow instruction (R270). -/
opaque condition : (k : Nat) → (a b : Word) → Bool

/-- The condition of UNALIGNED ELEMENT SELECT for a select form of the implementation (R242). -/
opaque selectUnaligned : (k : Nat) → VecType → (select : Word) → Bool

/-- The extracted element where the select names none by its number or offset (R240); its low e(T) bits count. -/
opaque extracted : SelectForm → VecType → (src select : Word) → BitVec 64

/-- The whole destination after a deposition whose select names no element by its number or offset (R241). -/
opaque deposited : SelectForm → VecType → (old select value : Word) → Word

/-- What a register that held `old` holds after a two-valued outcome was reported in another form (R201, R259). -/
opaque reported : (k : Nat) → (ok : Bool) → (old : Word) → Word

/-- A value that a composite instruction computes from others (R163). -/
opaque computed : (k : Nat) → List Word → Word

/-- Whether the "necessary conditions" of a STORE ATOMIC hold (R259); `occurrence` counts free values, so that hidden
state of the implementation may decide it anew each time. -/
opaque atomicCondition : (k occurrence location : Nat) → (current value : Word) → Bool

end Config

end Sys2Proof
end

