-- ==== Sys2Proof/Machine/State.lean ====
section
/-! DEFINITION. The state of the machine: one processor of 10_state.md, the primary memory of 20_memory.md, and what the
model itself keeps; reset; the reasons a step can stop. -/

namespace Sys2Proof.Machine

open Sys2Proof

/-- How the package at IPMAR was entered (R37). -/
inductive Entry where
  | transfer
  | sequential (l : PartLen)
  deriving DecidableEq, Repr

/-- ISAVE[p]: where an interrupt handler returns to (R43, D17). -/
structure ResumePoint where
  opl : Nat := 0
  ipmar : Word := 0#128
  iidx : Fin 4 := 0
  deriving DecidableEq, Repr

/-- ESAVE[p]: what exception entry records (R42). -/
structure ExcSave where
  opl : Nat := 0
  ipmar : Word := 0#128
  iidx : Fin 4 := 0
  ceid : Nat := 0
  deriving DecidableEq, Repr

/-- A range of word locations, first and last, that is backed or unbacked (R81, R82). -/
structure Backing where
  first : Nat
  last : Nat
  backed : Bool
  deriving DecidableEq, Repr

/-- An interrupt this processor has sent (R273): the level is the sender's PL_MAX. -/
structure Sent where
  kind : DestKind
  address : Word
  level : Nat
  deriving DecidableEq, Repr

/-- An event of the memory model, by word location (R96, R97). -/
inductive MemEvent where
  | read (w : Nat)
  | write (w : Nat)
  | barrier (sel : BarrierSel)
  deriving DecidableEq, Repr

/-- Who initiates a memory event: this processor, another one, or an agent, each by its number (R20, R97, R109). -/
inductive Initiator where
  | self
  | processor (k : Nat)
  | agent (k : Nat)
  deriving DecidableEq, Repr

/-- An event of the record, with its initiator. -/
structure Noted where
  initiator : Initiator
  event : MemEvent
  deriving DecidableEq, Repr

/-- The reads that an access depends on, by their numbers in the record, and how: a read's value is consumed for the access's address;
to decide whether it is initiated; as the value written (R101). -/
structure Consumed where
  address : List Nat
  control : List Nat
  data : List Nat
  deriving DecidableEq, Repr

/-- Where a value that was read can stand before an instruction consumes it: half of a GPR, half of an RNR, a CR, privileged state. -/
inductive Place where
  | gpr (half : Fin 128)
  | rnr (half : Fin 128)
  | cr (i : Fin 128)
  | priv (f : PrivField)
  deriving DecidableEq, Repr

/-- The dependences of R101 as execution makes them: which reads the contents of each place depend on; which reads control flow
instructions have consumed; which reads each recorded write depends on, by the write's number. -/
structure Dependences where
  places : List (Place × List Nat) := []
  control : List Nat := []
  writes : List (Nat × Consumed) := []
  deriving DecidableEq, Repr

/-- Registers that exist once for each privilege level, sorted by level; a level not listed holds the value at reset. -/
abbrev LevelMap (α : Type) := List (Nat × α)

/-- The state. Each field's rule is given with it. -/
structure State where
  /-- IPMAR, the word address of the package being executed (R23). -/
  ipmar : Word
  /-- IIDX, the number of the next instruction in that package (R36). -/
  iidx : Fin 4
  /-- ENTRY, how that package was entered (R37). -/
  entry : Entry
  /-- GPR[0..63]; the SGPRs are their halves (R24, R25). -/
  gpr : Vector Word 64
  /-- RNR[0..63]; the SRNRs are their halves (R31, R32). -/
  rnr : Vector Word 64
  /-- CR[0..127] (R27). -/
  cr : Vector Bool 128
  /-- OPL, the operating privilege level (R38). -/
  opl : Nat
  /-- XIE, external interrupts are received (R39). -/
  xie : Bool
  /-- EHA[p], the registered exception handlers (R40). -/
  eha : LevelMap Word
  /-- IHA[p], the registered interrupt handlers (R41). -/
  iha : LevelMap Word
  /-- ESAVE[p] (R42). -/
  esave : LevelMap ExcSave
  /-- ISAVE[p] (R43). -/
  isave : LevelMap ResumePoint
  /-- XPEND, the levels of the external interrupts pending (R44). -/
  xpend : List Nat
  /-- The primary memory by octet locations, in the canonical form `Memory.wf` (R60 to R68). -/
  mem : List Host.Cell
  /-- `BACKED`, the newest statement about a word location first (R81 to R83). -/
  backing : List Backing
  /-- Superseded contents of word locations that a fetch may still see, newest first (R45, R107, D20). -/
  stale : List (Nat × Word)
  /-- Interrupts sent and not yet taken over by the platform (R273); the model's own field. -/
  outbox : List Sent
  /-- The memory events of this processor, and of the others as they take effect here, newest first (R97, R109); the model's own
  field. -/
  trace : List Noted
  /-- The dependences among them (R101); the model's own field. -/
  depend : Dependences
  /-- How many unpredictable values have been drawn (U1); the model's own field. -/
  free : Nat
  /-- n and l of the package being executed, as fetched in this step (R174); the model's own field. -/
  shape : Shape
  /-- The implementation (R10); no step writes it. -/
  impl : Impl
  deriving DecidableEq, Repr

/-- Why the machine stops with a fault: there is no such reason. Every malformed package or instruction takes a precise exception,
and the base architecture "has no state from which it makes no further step" (93_implementation_defined.md). -/
inductive Fault where
  deriving DecidableEq, Repr

/-- Why a step has no meaning. -/
inductive Refusal where
  /-- Raised by an arm of `exec` that has no meaning yet. Safe. -/
  | notModelled (mnemonic : String)
  /-- Raised by the meaning of a package format where IIDX names no instruction of the package: "no rule of the source
  applies" (R178, D30, U10). Safe: nothing is said of what hardware does there. -/
  | noInstructionAtIndex
  /-- Raised by the meaning of a package format or an instruction word for which ISET has two recognised lines: an implementation with
  conflicting encodings "is outside the model" (R137, R202, U18), and `Impl.wf` excludes it. Safe. -/
  | conflictingEncodings
  deriving DecidableEq, Repr

/-- What `ISET.exec` answers (R163). `done` is the model's word for the returns of R325 and R334, which write the
sequencing state themselves. -/
inductive IsetOutcome where
  | next
  | transfer (target : Word)
  | exception (e : ExcId) (p : Nat)
  | internalInterrupt (p : Nat)
  | done
  deriving DecidableEq, Repr

/-- What an instruction does: the state with its writes, before the move to the next instruction, and the outcome. -/
structure Effect where
  state : State
  outcome : IsetOutcome

/-! ### Updates -/

namespace State

/-- GPR[g] <- v. -/
def setGpr (s : State) (g : Fin 64) (v : Word) : State := { s with gpr := s.gpr.set g v }
/-- RNR[r] <- v. -/
def setRnr (s : State) (r : Fin 64) (v : Word) : State := { s with rnr := s.rnr.set r v }
/-- CR[i] <- b. -/
def setCr (s : State) (i : Fin 128) (b : Bool) : State := { s with cr := s.cr.set i b }
/-- The sequencing state: IPMAR, IIDX and ENTRY. -/
def setSequence (s : State) (ipmar : Word) (iidx : Fin 4) (entry : Entry) : State :=
  { s with ipmar := ipmar, iidx := iidx, entry := entry }
/-- OPL <- p. -/
def setOpl (s : State) (p : Nat) : State := { s with opl := p }
/-- XIE <- b. -/
def setXie (s : State) (b : Bool) : State := { s with xie := b }
/-- The handler addresses of exceptions. -/
def setEhaMap (s : State) (m : LevelMap Word) : State := { s with eha := m }
/-- The handler addresses of interrupts. -/
def setIhaMap (s : State) (m : LevelMap Word) : State := { s with iha := m }
/-- The save sets of exceptions. -/
def setEsaveMap (s : State) (m : LevelMap ExcSave) : State := { s with esave := m }
/-- The save sets of interrupts. -/
def setIsaveMap (s : State) (m : LevelMap ResumePoint) : State := { s with isave := m }
/-- The pending interrupts. -/
def setXpend (s : State) (l : List Nat) : State := { s with xpend := l }
/-- The primary memory. -/
def setMem (s : State) (m : List Host.Cell) : State := { s with mem := m }
/-- The backed status. -/
def setBacking (s : State) (b : List Backing) : State := { s with backing := b }
/-- The superseded contents. -/
def setStale (s : State) (l : List (Nat × Word)) : State := { s with stale := l }
/-- The sent interrupts. -/
def setOutbox (s : State) (l : List Sent) : State := { s with outbox := l }
/-- One more memory event, of any initiator. -/
def noteBy (s : State) (i : Initiator) (e : MemEvent) : State := { s with trace := ⟨i, e⟩ :: s.trace }
/-- One more memory event of this processor. -/
def note (s : State) (e : MemEvent) : State := s.noteBy .self e
/-- The dependences. -/
def setDepend (s : State) (d : Dependences) : State := { s with depend := d }
/-- One more unpredictable value drawn. -/
def drawn (s : State) : State := { s with free := s.free + 1 }
/-- How many unpredictable values have been drawn. -/
def setFree (s : State) (n : Nat) : State := { s with free := n }
/-- The shape of the package of this step. -/
def setShape (s : State) (sh : Shape) : State := { s with shape := sh }

/-! ### System start -/

/-- A started system with a given implementation and memory image (R35, R87, R360, D19). What the spec gives: IPMAR = 0,
IIDX = 0, ENTRY = Transfer, OPL = PL_MAX. DESIGN CHOICE, unsafe (logs 3 and 4): registers the spec calls unpredictable
are zero and reception is disabled. -/
def boot (impl : Impl) (mem : List Host.Cell) : State where
  ipmar := 0#128
  iidx := 0
  entry := .transfer
  gpr := Vector.replicate 64 0#128
  rnr := Vector.replicate 64 0#128
  cr := Vector.replicate 128 false
  opl := impl.plMax
  xie := false
  eha := []
  iha := []
  esave := []
  isave := []
  xpend := []
  mem := mem
  backing := []
  stale := []
  outbox := []
  trace := []
  depend := {}
  free := 0
  shape := { n := 1, l := .none }
  impl := impl

/-- The machine right after reset: the default parameters of R10, nothing loaded (logs 1 to 6). -/
def reset : State := boot {} []

/-- All that R35 states of a started processor, whatever its unpredictable registers hold. -/
def Started (s : State) : Prop :=
  s.ipmar = 0#128 ∧ s.opl = s.impl.plMax ∧ s.iidx = 0 ∧ s.entry = .transfer

end State

end Sys2Proof.Machine
end

