-- ==== Sys2Proof/Machine/Dependence.lean ====
section
/-! DEFINITION. How the values of reads flow through the instructions of this processor to its writes: the address, control and data
dependences of R101, followed through registers and privileged state (log 43). -/

namespace Sys2Proof.Machine

open Sys2Proof

/-! ### What an instruction consumes and produces -/

/-- The places a register's contents stand in (R25, R32). -/
def regPlaces : Reg → List Place
  | .gpr g => [.gpr ⟨2 * g.val, by omega⟩, .gpr ⟨2 * g.val + 1, by omega⟩]
  | .sgpr i => [.gpr i]
  | .rnr r => [.rnr ⟨2 * r.val, by omega⟩, .rnr ⟨2 * r.val + 1, by omega⟩]
  | .srnr i => [.rnr i]

/-- The places an operand is read from. -/
def operandPlaces : Operand → List Place
  | .reg r => regPlaces r
  | .carry i => [.cr i]
  | .imm _ | .ipmar => []

/-- The places an address is computed from. -/
def addressPlaces : Address → List Place
  | .sum base index _ _ => operandPlaces base ++ operandPlaces index
  | .implementation _ a b => operandPlaces a ++ operandPlaces b

/-- What one instruction does with the values in its places. -/
structure Flow where
  /-- Consumed for the address of its memory access. -/
  address : List Place := []
  /-- Consumed as the value it writes to memory. -/
  stored : List Place := []
  /-- Consumed to decide whether its own write is initiated. -/
  guards : List Place := []
  /-- Consumed to decide what executes next (R270). -/
  decides : List Place := []
  /-- Consumed to decide whether it raises an exception of its own. -/
  raises : List Place := []
  /-- Consumed for its results in registers and privileged state. -/
  used : List Place := []
  /-- Where its results go. -/
  results : List Place := []
  /-- Other places it writes, with values that no read enters. -/
  cleared : List Place := []
  /-- Its effect records its dependences itself, action by action (`compositeEffect`). -/
  recorded : Bool := false

/-! ### Lists of reads -/

/-- Both lists, each number once. -/
def addReads (a b : List Nat) : List Nat := b.foldl (fun acc n => if acc.contains n then acc else acc ++ [n]) a

namespace Dependences

/-- The reads the contents of a place depend on. -/
def readsAt (d : Dependences) (p : Place) : List Nat :=
  match d.places.find? fun e => e.1 == p with
  | some e => e.2
  | none => []

/-- The reads the contents of some places depend on. -/
def reads (d : Dependences) (ps : List Place) : List Nat := ps.foldl (fun acc p => addReads acc (d.readsAt p)) []

/-- The places with new contents, which depend on these reads. -/
def put (d : Dependences) (ps : List Place) (l : List Nat) : Dependences :=
  { d with places := ps.map (fun p => (p, l)) ++ d.places.filter (fun e => !ps.contains e.1) }

/-- More reads that decided what executes. -/
def decidedBy (d : Dependences) (l : List Nat) : Dependences := { d with control := addReads d.control l }

end Dependences

namespace State

/-- Event number i of the record, numbered from the oldest, 0. -/
def event? (s : State) (i : Nat) : Option Noted := s.trace.reverse[i]?

/-- The numbers of this processor's events from number n on that satisfy a test. -/
def ownFrom (s : State) (n : Nat) (test : MemEvent → Bool) : List Nat :=
  (List.range s.trace.length).filter fun i =>
    decide (n ≤ i) &&
    match s.event? i with
    | some e => e.initiator == .self && test e.event
    | none => false

/-- The reads this processor noted from event n on. -/
def ownReads (s : State) (n : Nat) : List Nat := s.ownFrom n fun e => match e with | .read _ => true | _ => false

/-- Its writes. -/
def ownWrites (s : State) (n : Nat) : List Nat := s.ownFrom n fun e => match e with | .write _ => true | _ => false

/-- The writes noted from event n on depend on what is said (R101). -/
def writesConsumed (s : State) (n : Nat) (c : Consumed) : State :=
  s.setDepend { s.depend with writes := (s.ownWrites n).map (fun i => (i, c)) ++ s.depend.writes }

/-- The contents of these places decided what executes (R101). -/
def decidedAt (s : State) (ps : List Place) : State := s.setDepend (s.depend.decidedBy (s.depend.reads ps))

/-- `t` is the state after an instruction with this flow completed from `s`; the state with the dependences it made. The instruction's
own reads enter its results. A dependence is direct or goes through any number of instructions, loads among them (R101). -/
def track (s : State) (f : Flow) (t : State) : State :=
  if f.recorded then t
  else
    let d := s.depend
    let own := t.ownReads s.trace.length
    let address := d.reads f.address
    let placed := (d.put f.cleared []).put f.results (addReads (addReads address (d.reads f.used)) own)
    (t.setDepend (placed.decidedBy (d.reads f.decides))).writesConsumed s.trace.length
      ⟨address, addReads d.control (d.reads f.guards), d.reads f.stored⟩

/-- `t` is what an instruction with this flow had reached when it raised an exception; the state that entry starts from. All its writes
are discarded (R177, R305), unpredictable values it drew are not drawn again (U1), and what it consumed to raise the exception decided
what executes next (R101). -/
def abandon (s : State) (f : Flow) (t : State) : State :=
  (s.setFree t.free).setDepend <|
    if f.recorded then s.depend.decidedBy (t.depend.control.filter (· < s.trace.length))
    else s.depend.decidedBy (s.depend.reads f.raises)

/-! ### Entries to handlers -/

/-- The fields of ESAVE[p] as places. -/
def esavePlaces (p : Nat) : List Place :=
  [.priv (.esave p (.resume .ipmar)), .priv (.esave p (.resume .iidx)), .priv (.esave p .ceid)]

/-- The dependences that exception entry of level p makes (R320): the saved OPL depends on what OPL did; the address of the handler
decides what executes. Where the processor stood depended on reads by control only, so the other saved items carry none. -/
def exceptionEntered (s : State) (p : Nat) : State :=
  let d := s.depend
  s.setDepend <|
    ((d.put (.priv .xie :: esavePlaces p) []).put [.priv (.esave p (.resume .opl))] (d.reads [.priv .opl])).decidedBy
      (d.reads [.priv (.eha p)])

/-- The same of interrupt entry (R331), after which OPL is the interrupt's level. -/
def interruptEntered (s : State) (p : Nat) : State :=
  let d := s.depend
  s.setDepend <|
    ((d.put [.priv .xie, .priv .opl, .priv (.isave p .ipmar), .priv (.isave p .iidx)] []).put [.priv (.isave p .opl)]
      (d.reads [.priv .opl])).decidedBy (d.reads [.priv (.iha p)])

end State

end Sys2Proof.Machine
end

