-- ==== Sys2Proof/WellFormed.lean ====
section
/-! DEFINITION. Which terms of `Instr` and which lines of ISET are instructions of the architecture, and the checks on levels and
identifiers that Machine/Iset.lean gathers into `Impl.wf`. -/

namespace Sys2Proof

/-- The Zero sub-field `z`, if present, is filled with zeros (R131). -/
def zeroOk {n : Nat} (z : BitVec n) : Bool := z == 0#n

/-- An access of this size fits in this register: its value is a part or the whole of the register (R217). -/
def sizeFits (size : UnitSize) (r : Reg) : Bool := 8 * size.octets ≤ r.width

/-- A level that privileged state of exceptions may have (R40, R42). -/
def levelPrivileged (p : Nat) : Bool := 1 ≤ p

/-- An operation on privileged state names state that exists: levels from 1 for what serves exceptions; IHA[0] and ISAVE[0]
may exist (R40 to R43, R335). -/
def PrivOp.wf : PrivOp → Bool
  | .setEha p _ => levelPrivileged p
  | .readEsave p _ _ => levelPrivileged p
  | .writeEsave p _ _ => levelPrivileged p
  | .exceptionReturn p => levelPrivileged p
  | .setIha _ _ | .readIsave _ _ _ | .writeIsave _ _ _ | .interruptReturn _ => true
  | .setXie _ | .lowerOpl _ _ | .enforceCoherence => true

/-- A report delivers its outcome: the two values differ in the register, the bit is one of the register's (R201 has "one result").
What a form of the implementation delivers is its own affair. -/
def Report.wf : Report → Bool
  | .register dst yes no => yes.toNat % 2 ^ dst.width != no.toNat % 2 ^ dst.width
  | .bit dst n => n.val < dst.width
  | .carry _ | .transferIf _ _ | .implementation _ _ => true

/-- Where a STORE ATOMIC takes its value from fits what it writes, and a report delivers (R259). -/
def StoreAtomic.wf (o : StoreAtomic) : Bool :=
  (match o.target with
    | .word _ => o.src.width == 128
    | .octets size _ => sizeFits size o.src) &&
  match o.report with
  | some r => r.wf
  | none => true

/-- An internal-interrupt-generating instruction "must be executable at level 0" to serve its purpose (R272). -/
def InternalInterrupt.wf (o : InternalInterrupt) : Bool := o.priv == 0

/-- The privileged state exists: EHA and ESAVE for levels from 1 (R40 to R43). -/
def PrivField.wf : PrivField → Bool
  | .eha p | .esave p _ => levelPrivileged p
  | .iha _ | .isave _ _ | .xie | .opl => true

/-- The privilege level of the state: its own, at least 1 (R301, R333, D5; log 21). -/
def PrivField.level : PrivField → Nat
  | .eha p | .iha p | .esave p _ | .isave p _ => max 1 p
  | .xie | .opl => 1

/-- State of a level is there only up to PL_MAX (R335). -/
def PrivField.levelsWithin (plMax : Nat) : PrivField → Bool
  | .eha p | .iha p | .esave p _ | .isave p _ => p ≤ plMax
  | .xie | .opl => true

/-- How many values an action adds to those a composite instruction has. -/
def Action.produces : Action → Nat
  | .compute _ _ | .load _ _ | .loadWord _ | .readPriv _ => 1
  | _ => 0

/-- The action is an operation on privileged state (R275). -/
def Action.privileged : Action → Bool
  | .readPriv _ | .writePriv _ _ | .exceptionReturn _ | .interruptReturn _ | .enforceCoherence => true
  | _ => false

/-- The action sends an interrupt (R273). -/
def Action.sends : Action → Bool
  | .sendInterrupt _ _ => true
  | _ => false

/-- The action asks for an internal interrupt (R272). -/
def Action.interrupts : Action → Bool
  | .internalInterrupt _ => true
  | _ => false

/-- What an element extraction or deposition instruction does: it computes, writes registers, and raises its exception; it touches no
memory (R243). -/
def Action.ofElements : Action → Bool
  | .compute _ _ | .write _ _ | .unalignedSelect => true
  | _ => false

/-- The privilege level that an action needs: that of the state it touches (R275, R325, R333), the highest for sending an interrupt
(R273). -/
def Action.level (plMax : Nat) : Action → Nat
  | .readPriv f | .writePriv f _ => f.level
  | .exceptionReturn p | .interruptReturn p => max 1 p
  | .enforceCoherence => 1
  | .sendInterrupt _ _ => plMax
  | _ => 0

/-- The levels an action names exist (R300, R335). -/
def Action.levelsWithin (plMax : Nat) : Action → Bool
  | .internalInterrupt p | .exceptionReturn p | .interruptReturn p => p ≤ plMax
  | .readPriv f | .writePriv f _ => f.levelsWithin plMax
  | _ => true

/-- An action that uses only values, and names only state, that exist; `n` values so far. -/
def Action.wf (n : Nat) : Action → Bool
  | .compute _ args => args.all (· < n)
  | .load _ a | .loadWord a => a < n
  | .store _ a v | .storeWord a v => a < n && v < n
  | .write _ v => v < n
  | .writeCarry _ v c => v < n && c < n
  | .transfer a => a < n
  | .readPriv f => f.wf
  | .writePriv f v => f.wf && v < n
  | .exceptionReturn p => levelPrivileged p
  | .sendInterrupt _ a => a < n
  | .barrier _ | .internalInterrupt _ | .unalignedSelect | .interruptReturn _ | .enforceCoherence => true

/-- The same of a guarded action. -/
def GuardedAction.wf (n : Nat) (a : GuardedAction) : Bool :=
  a.action.wf n &&
  match a.guard with
  | some (v, _) => v < n
  | none => true

/-- The actions of a composite instruction, from `n` values on. -/
def actionsWf : Nat → List GuardedAction → Bool
  | _, [] => true
  | n, a :: rest => a.wf n && actionsWf (n + a.action.produces) rest

/-- The privilege level of a composite instruction. -/
def Composite.level (o : Composite) (plMax : Nat) : Nat :=
  o.actions.foldl (fun l a => max l (a.action.level plMax)) o.priv

/-- A composite instruction uses only values that exist. Only a form of element extraction or deposition raises UNALIGNED ELEMENT SELECT,
and it does nothing that those do not (R242, R243). One that asks for an internal interrupt "must be executable at level 0" (R272). -/
def Composite.wf (o : Composite) : Bool :=
  actionsWf o.sources.length o.actions &&
  (if o.element then o.actions.all fun a => a.action.ofElements else o.actions.all fun a => a.action != .unalignedSelect) &&
  (!(o.actions.any fun a => a.action.interrupts) ||
    (o.priv == 0 && o.actions.all fun a => !a.action.privileged && !a.action.sends))

/-- What an instruction of ISET must be besides its levels: it writes registers only as 10_state.md allows and names state that exists
(R163). The named rows have the same checks in `Instr.wf`. -/
def Op.wf : Op → Bool
  | .aeQuery o => o.report.wf
  | .loadOctetAddressed o => sizeFits o.size o.dst
  | .storeOctetAddressed o => sizeFits o.size o.src
  | .storeAtomic o => o.wf
  | .privilegedState o => o.op.wf
  | .composite o => o.wf
  | .internalInterrupt o => o.wf
  | .aviObtain _ | .integerCarry _ | .vector _ | .elementExtract _ | .elementDeposit _ | .loadWordAddressed _
  | .storeWordAddressed _ | .memoryBarrier _ | .controlFlow _ | .sendInterrupt _ | .null _
  | .scalar _ => true

/-- The checks on an instruction, one arm per constructor. -/
def Instr.wf : Instr → Bool
  | .pkg0 _ _ _ _ z => zeroOk z
  | .pkg1 _ _ _ _ _ => true
  | .pkg2 _ _ _ _ z => zeroOk z
  | .pkg3 _ _ _ _ _ => true
  | .pkg4 _ _ _ _ => true
  | .pkg5 _ _ _ _ => true
  | .pkg6 _ _ _ _ z => zeroOk z
  | .pkg7 _ _ _ _ _ => true
  | .pkg8 _ _ _ _ => true
  | .pkg9 _ _ _ _ => true
  | .pkg10 _ _ _ _ => true
  | .pkg11 _ _ _ _ => true
  | .pkg12 _ _ _ z => zeroOk z
  | .pkg13 _ _ _ _ => true
  | .pkg14 _ _ _ _ z => zeroOk z
  | .pkg15 _ _ _ _ _ => true
  | .pkg16 _ _ _ _ => true
  | .pkg17 _ _ _ _ => true
  | .pkg18 _ _ _ _ => true
  | .pkg19 _ _ _ _ => true
  | .pkg20 _ _ _ z => zeroOk z
  | .pkg21 _ _ _ _ => true
  | .pkg22 _ _ _ z => zeroOk z
  | .pkg23 _ _ _ _ => true
  | .pkg24 _ _ _ _ => true
  | .pkg25 _ _ _ _ => true
  | .pkg26 _ _ _ z => zeroOk z
  | .pkg27 _ _ _ _ => true
  | .pkg28 _ _ _ z => zeroOk z
  | .pkg29 _ _ _ _ => true
  | .pkg30 _ _ _ => true
  | .pkg31 _ _ _ z => zeroOk z
  | .pkg32 _ _ _ _ => true
  | .pkg33 _ _ _ z => zeroOk z
  | .pkg34 _ _ _ _ => true
  | .pkg35 _ _ _ => true
  | .pkg36 _ _ _ => true
  | .pkg37 _ _ _ _ z => zeroOk z
  | .pkg38 _ _ _ _ _ => true
  | .pkg39 _ _ _ _ => true
  | .pkg40 _ _ _ _ => true
  | .pkg41 _ _ _ _ => true
  | .pkg42 _ _ _ _ => true
  | .pkg43 _ _ _ z => zeroOk z
  | .pkg44 _ _ _ _ => true
  | .pkg45 _ _ _ z => zeroOk z
  | .pkg46 _ _ _ _ => true
  | .pkg47 _ _ _ _ => true
  | .pkg48 _ _ _ _ => true
  | .pkg49 _ _ _ z => zeroOk z
  | .pkg50 _ _ _ _ => true
  | .pkg51 _ _ _ z => zeroOk z
  | .pkg52 _ _ _ _ => true
  | .pkg53 _ _ _ => true
  | .pkg54 _ _ _ z => zeroOk z
  | .pkg55 _ _ _ _ => true
  | .pkg56 _ _ _ z => zeroOk z
  | .pkg57 _ _ _ _ => true
  | .pkg58 _ _ _ => true
  | .pkg59 _ _ _ => true
  | .pkg60 _ _ _ z => zeroOk z
  | .pkg61 _ _ _ _ => true
  | .pkg62 _ _ _ => true
  | .pkg63 _ _ _ => true
  | .pkg64 _ _ _ _ => true
  | .pkg65 _ _ _ _ => true
  | .pkg66 _ _ _ _ => true
  | .pkg67 _ _ _ _ => true
  | .pkg68 _ _ _ z => zeroOk z
  | .pkg69 _ _ _ _ => true
  | .pkg70 _ _ _ z => zeroOk z
  | .pkg71 _ _ _ _ => true
  | .pkg72 _ _ _ z => zeroOk z
  | .pkg73 _ _ _ _ => true
  | .pkg74 _ _ _ z => zeroOk z
  | .pkg75 _ _ _ _ => true
  | .pkg76 _ _ _ => true
  | .pkg77 _ _ _ => true
  | .pkg78 _ _ _ z => zeroOk z
  | .pkg79 _ _ _ _ => true
  | .pkg80 _ _ _ z => zeroOk z
  | .pkg81 _ _ _ _ => true
  | .pkg82 _ _ _ z => zeroOk z
  | .pkg83 _ _ _ _ => true
  | .pkg84 _ _ _ z => zeroOk z
  | .pkg85 _ _ _ _ => true
  | .pkg86 _ _ _ => true
  | .pkg87 _ _ _ => true
  | .pkg88 _ _ _ => true
  | .pkg89 _ _ _ => true
  | .pkg90 _ _ _ z => zeroOk z
  | .pkg91 _ _ _ _ => true
  | .pkg92 _ _ _ z => zeroOk z
  | .pkg93 _ _ _ _ => true
  | .pkg94 _ _ _ => true
  | .pkg95 _ _ _ => true
  | .pkg96 _ _ _ => true
  | .pkg97 _ _ _ => true
  | .pkg98 _ _ _ => true
  | .pkg99 _ _ _ => true
  | .pkg100 _ _ _ => true
  | .pkg101 _ _ _ => true
  | .pkg102 _ _ _ z => zeroOk z
  | .pkg103 _ _ _ _ => true
  | .pkg104 _ _ _ z => zeroOk z
  | .pkg105 _ _ _ _ => true
  | .pkg106 _ _ _ z => zeroOk z
  | .pkg107 _ _ _ _ => true
  | .pkg108 _ _ _ z => zeroOk z
  | .pkg109 _ _ _ _ => true
  | .pkg110 _ _ _ => true
  | .pkg111 _ _ _ => true
  | .pkg112 _ _ _ => true
  | .pkg113 _ _ _ => true
  | .pkg114 _ _ _ z => zeroOk z
  | .pkg115 _ _ _ _ => true
  | .pkg116 _ _ _ z => zeroOk z
  | .pkg117 _ _ _ _ => true
  | .pkg118 _ _ _ => true
  | .pkg119 _ _ _ => true
  | .pkg120 _ _ _ => true
  | .pkg121 _ _ _ => true
  | .pkg122 _ _ _ => true
  | .pkg123 _ _ _ => true
  | .pkg124 _ _ _ => true
  | .pkg125 _ _ _ => true
  | .pkg126 _ _ z => zeroOk z
  | .pkg127 _ _ _ => true
  | .pkg128 _ _ z => zeroOk z
  | .pkg129 _ _ _ => true
  | .pkg130 _ _ _ z => zeroOk z
  | .pkg131 _ _ _ _ => true
  | .pkg132 _ _ _ z => zeroOk z
  | .pkg133 _ _ _ _ => true
  | .pkg134 _ _ _ => true
  | .pkg135 _ _ _ => true
  | .pkg136 _ _ _ => true
  | .pkg137 _ _ _ => true
  | .pkg138 _ _ _ => true
  | .pkg139 _ _ _ => true
  | .pkg140 _ _ _ => true
  | .pkg141 _ _ _ => true
  | .pkg142 _ _ z => zeroOk z
  | .pkg143 _ _ _ => true
  | .pkg144 _ _ z => zeroOk z
  | .pkg145 _ _ _ => true
  | .pkg146 _ _ z => zeroOk z
  | .pkg147 _ _ _ => true
  | .pkg148 _ _ z => zeroOk z
  | .pkg149 _ _ _ => true
  | .pkg150 _ _ _ => true
  | .pkg151 _ _ _ => true
  | .pkg152 _ _ z => zeroOk z
  | .pkg153 _ _ _ => true
  | .pkg154 _ _ z => zeroOk z
  | .pkg155 _ _ _ => true
  | .pkg156 _ _ => true
  | .i30Popc0 _ => true
  | .i30Popc1 _ => true
  | .i30Popc2 _ => true
  | .i30Popc3 _ => true
  | .i30Popc4 _ => true
  | .i30Popc5 _ => true
  | .i30Popc6 _ => true
  | .i30Popc7 _ => true
  | .i40Popc0 _ => true
  | .i40Popc1 _ => true
  | .i40Popc2 _ => true
  | .i40Popc3 _ => true
  | .i40Popc4 _ => true
  | .i40Popc5 _ => true
  | .i40Popc6 _ => true
  | .i40Popc7 _ => true
  | .i50Popc0 _ => true
  | .i50Popc1 _ => true
  | .i50Popc2 _ => true
  | .i50Popc3 _ => true
  | .i50Popc4 _ => true
  | .i50Popc5 _ => true
  | .i50Popc6 _ => true
  | .i50Popc7 _ => true
  | .i60Popc0 _ => true
  | .i60Popc1 _ => true
  | .i60Popc2 _ => true
  | .i60Popc3 _ => true
  | .i60Popc4 _ => true
  | .i60Popc5 _ => true
  | .i60Popc6 _ => true
  | .i60Popc7 _ => true
  | .aviObtain _ => true
  | .aeQuery o => o.report.wf
  | .integerCarry _ => true
  | .vector _ => true
  | .elementExtract _ => true
  | .elementDeposit _ => true
  | .loadWordAddressed _ => true
  | .storeWordAddressed _ => true
  | .loadOctetAddressed o => sizeFits o.size o.dst
  | .storeOctetAddressed o => sizeFits o.size o.src
  | .memoryBarrier _ => true
  | .storeAtomic o => o.wf
  | .controlFlow _ => true
  | .internalInterrupt o => o.wf
  | .sendInterrupt _ => true
  | .null _ => true
  | .privilegedState o => o.op.wf

/-- The privilege level an operation carries; the interrupt-sending and the privileged-state instructions carry none. -/
def Op.privField : Op → Nat
  | .aviObtain o => o.priv
  | .aeQuery o => o.priv
  | .integerCarry o => o.priv
  | .vector o => o.priv
  | .elementExtract o => o.priv
  | .elementDeposit o => o.priv
  | .loadWordAddressed o => o.priv
  | .storeWordAddressed o => o.priv
  | .loadOctetAddressed o => o.priv
  | .storeOctetAddressed o => o.priv
  | .memoryBarrier o => o.priv
  | .storeAtomic o => o.priv
  | .controlFlow o => o.priv
  | .internalInterrupt o => o.priv
  | .sendInterrupt _ => 0
  | .null o => o.priv
  | .privilegedState _ => 0
  | .scalar o => o.priv
  | .composite o => o.priv

/-- The levels of privileged state an operation names exist: they do not exceed PL_MAX (R300, R335). -/
def PrivOp.levelsWithin (plMax : Nat) : PrivOp → Bool
  | .setEha p _ | .setIha p _ | .readEsave p _ _ | .writeEsave p _ _ | .readIsave p _ _ | .writeIsave p _ _ => p ≤ plMax
  | .exceptionReturn p | .interruptReturn p | .lowerOpl p _ => p ≤ plMax
  | .setXie _ | .enforceCoherence => true

/-- An instruction of ISET asks for no privilege level, interrupt level or privileged state above PL_MAX (R300, R163). -/
def Op.levelsWithin (plMax : Nat) (op : Op) : Bool :=
  op.privField ≤ plMax &&
  match op with
  | .internalInterrupt o => o.level ≤ plMax
  | .privilegedState o => o.op.levelsWithin plMax
  | .composite o => o.actions.all fun a => a.action.levelsWithin plMax
  | _ => true

/-- A level an exception may have (R311, R320: 1 ≤ p ≤ PL_MAX). -/
def levelIn (plMax p : Nat) : Bool := 1 ≤ p && p ≤ plMax

/-- The exception levels are levels of the implementation. -/
def ExcLevels.wf (plMax : Nat) (l : ExcLevels) : Bool :=
  (l.insufficientPrivilege.all fun p => p.2 ≤ plMax) &&
  levelIn plMax l.invalidInstruction && levelIn plMax l.invalidInstructionPackage &&
  levelIn plMax l.invalidInstructionPackageFormat && levelIn plMax l.invalidSpannedInstruction &&
  levelIn plMax l.unalignedElementSelect && levelIn plMax l.unalignedPrimaryMemoryAddress

/-- The concrete identifiers are unique (R313). -/
def CeidMap.wf (m : CeidMap) : Bool :=
  decide [m.insufficientPrivilege, m.invalidInstruction, m.invalidInstructionPackage, m.invalidInstructionPackageFormat,
    m.invalidSpannedInstruction, m.unalignedElementSelect, m.unalignedPrimaryMemoryAddress].Nodup

end Sys2Proof
end

