-- ==== Sys2Proof/Decode.lean ====
section
/-! DEFINITION. The format table of R126, the decoder and the encoder of packages and instruction words. -/

namespace Sys2Proof

/-! ### The format table -/

/-- One row of R126: the length of T, the lengths of the whole instructions I:0 upward, the length of L, the length of Z. -/
structure PackageFormat where
  t : PartLen
  whole : List Nat
  l : PartLen
  z : Nat
  deriving DecidableEq, Repr

/-- `lo[k]` of R126: the lowest payload bit of sub-field number k. -/
def PackageFormat.lo (f : PackageFormat) (k : Nat) : Nat := f.t.bits + (f.whole.take k).sum

/-- `n` of R126: the number of numbered instructions. -/
def PackageFormat.count (f : PackageFormat) : Nat := f.whole.length + (if f.l = .none then 0 else 1)

/-- R126, rows 0 to 39. -/
def formatRows0 : List PackageFormat := [
  ⟨.ten, [30, 30, 30], .none, 20⟩,
  ⟨.ten, [30, 30, 30], .twenty, 0⟩,
  ⟨.ten, [30, 30, 40], .none, 10⟩,
  ⟨.ten, [30, 30, 40], .ten, 0⟩,
  ⟨.ten, [30, 30, 50], .none, 0⟩,
  ⟨.ten, [30, 30], .fifty, 0⟩,
  ⟨.ten, [30, 40, 30], .none, 10⟩,
  ⟨.ten, [30, 40, 30], .ten, 0⟩,
  ⟨.ten, [30, 40, 40], .none, 0⟩,
  ⟨.ten, [30, 40], .forty, 0⟩,
  ⟨.ten, [30, 50, 30], .none, 0⟩,
  ⟨.ten, [30, 50], .thirty, 0⟩,
  ⟨.ten, [30, 60], .none, 20⟩,
  ⟨.ten, [30, 60], .twenty, 0⟩,
  ⟨.ten, [40, 30, 30], .none, 10⟩,
  ⟨.ten, [40, 30, 30], .ten, 0⟩,
  ⟨.ten, [40, 30, 40], .none, 0⟩,
  ⟨.ten, [40, 30], .forty, 0⟩,
  ⟨.ten, [40, 40, 30], .none, 0⟩,
  ⟨.ten, [40, 40], .thirty, 0⟩,
  ⟨.ten, [40, 50], .none, 20⟩,
  ⟨.ten, [40, 50], .twenty, 0⟩,
  ⟨.ten, [40, 60], .none, 10⟩,
  ⟨.ten, [40, 60], .ten, 0⟩,
  ⟨.ten, [50, 30, 30], .none, 0⟩,
  ⟨.ten, [50, 30], .thirty, 0⟩,
  ⟨.ten, [50, 40], .none, 20⟩,
  ⟨.ten, [50, 40], .twenty, 0⟩,
  ⟨.ten, [50, 50], .none, 10⟩,
  ⟨.ten, [50, 50], .ten, 0⟩,
  ⟨.ten, [50, 60], .none, 0⟩,
  ⟨.ten, [60, 30], .none, 20⟩,
  ⟨.ten, [60, 30], .twenty, 0⟩,
  ⟨.ten, [60, 40], .none, 10⟩,
  ⟨.ten, [60, 40], .ten, 0⟩,
  ⟨.ten, [60, 50], .none, 0⟩,
  ⟨.ten, [60], .fifty, 0⟩,
  ⟨.twenty, [30, 30, 30], .none, 10⟩,
  ⟨.twenty, [30, 30, 30], .ten, 0⟩,
  ⟨.twenty, [30, 30, 40], .none, 0⟩]

/-- R126, rows 40 to 79. -/
def formatRows40 : List PackageFormat := [
  ⟨.twenty, [30, 30], .forty, 0⟩,
  ⟨.twenty, [30, 40, 30], .none, 0⟩,
  ⟨.twenty, [30, 40], .thirty, 0⟩,
  ⟨.twenty, [30, 50], .none, 20⟩,
  ⟨.twenty, [30, 50], .twenty, 0⟩,
  ⟨.twenty, [30, 60], .none, 10⟩,
  ⟨.twenty, [30, 60], .ten, 0⟩,
  ⟨.twenty, [40, 30, 30], .none, 0⟩,
  ⟨.twenty, [40, 30], .thirty, 0⟩,
  ⟨.twenty, [40, 40], .none, 20⟩,
  ⟨.twenty, [40, 40], .twenty, 0⟩,
  ⟨.twenty, [40, 50], .none, 10⟩,
  ⟨.twenty, [40, 50], .ten, 0⟩,
  ⟨.twenty, [40, 60], .none, 0⟩,
  ⟨.twenty, [50, 30], .none, 20⟩,
  ⟨.twenty, [50, 30], .twenty, 0⟩,
  ⟨.twenty, [50, 40], .none, 10⟩,
  ⟨.twenty, [50, 40], .ten, 0⟩,
  ⟨.twenty, [50, 50], .none, 0⟩,
  ⟨.twenty, [50], .fifty, 0⟩,
  ⟨.twenty, [60, 30], .none, 10⟩,
  ⟨.twenty, [60, 30], .ten, 0⟩,
  ⟨.twenty, [60, 40], .none, 0⟩,
  ⟨.twenty, [60], .forty, 0⟩,
  ⟨.thirty, [30, 30, 30], .none, 0⟩,
  ⟨.thirty, [30, 30], .thirty, 0⟩,
  ⟨.none, [30, 30, 30, 30], .none, 0⟩,
  ⟨.none, [30, 30, 30], .thirty, 0⟩,
  ⟨.thirty, [30, 40], .none, 20⟩,
  ⟨.thirty, [30, 40], .twenty, 0⟩,
  ⟨.none, [30, 30, 40], .none, 20⟩,
  ⟨.none, [30, 30, 40], .twenty, 0⟩,
  ⟨.thirty, [30, 50], .none, 10⟩,
  ⟨.thirty, [30, 50], .ten, 0⟩,
  ⟨.none, [30, 30, 50], .none, 10⟩,
  ⟨.none, [30, 30, 50], .ten, 0⟩,
  ⟨.thirty, [30, 60], .none, 0⟩,
  ⟨.none, [30, 30, 60], .none, 0⟩,
  ⟨.thirty, [40, 30], .none, 20⟩,
  ⟨.thirty, [40, 30], .twenty, 0⟩]

/-- R126, rows 80 to 119. -/
def formatRows80 : List PackageFormat := [
  ⟨.none, [30, 40, 30], .none, 20⟩,
  ⟨.none, [30, 40, 30], .twenty, 0⟩,
  ⟨.thirty, [40, 40], .none, 10⟩,
  ⟨.thirty, [40, 40], .ten, 0⟩,
  ⟨.none, [30, 40, 40], .none, 10⟩,
  ⟨.none, [30, 40, 40], .ten, 0⟩,
  ⟨.thirty, [40, 50], .none, 0⟩,
  ⟨.thirty, [40], .fifty, 0⟩,
  ⟨.none, [30, 40, 50], .none, 0⟩,
  ⟨.none, [30, 40], .fifty, 0⟩,
  ⟨.thirty, [50, 30], .none, 10⟩,
  ⟨.thirty, [50, 30], .ten, 0⟩,
  ⟨.none, [30, 50, 30], .none, 10⟩,
  ⟨.none, [30, 50, 30], .ten, 0⟩,
  ⟨.thirty, [50, 40], .none, 0⟩,
  ⟨.thirty, [50], .forty, 0⟩,
  ⟨.none, [30, 50, 40], .none, 0⟩,
  ⟨.none, [30, 50], .forty, 0⟩,
  ⟨.thirty, [60, 30], .none, 0⟩,
  ⟨.thirty, [60], .thirty, 0⟩,
  ⟨.none, [30, 60, 30], .none, 0⟩,
  ⟨.none, [30, 60], .thirty, 0⟩,
  ⟨.forty, [30, 30], .none, 20⟩,
  ⟨.forty, [30, 30], .twenty, 0⟩,
  ⟨.none, [40, 30, 30], .none, 20⟩,
  ⟨.none, [40, 30, 30], .twenty, 0⟩,
  ⟨.forty, [30, 40], .none, 10⟩,
  ⟨.forty, [30, 40], .ten, 0⟩,
  ⟨.none, [40, 30, 40], .none, 10⟩,
  ⟨.none, [40, 30, 40], .ten, 0⟩,
  ⟨.forty, [30, 50], .none, 0⟩,
  ⟨.forty, [30], .fifty, 0⟩,
  ⟨.none, [40, 30, 50], .none, 0⟩,
  ⟨.none, [40, 30], .fifty, 0⟩,
  ⟨.forty, [40, 30], .none, 10⟩,
  ⟨.forty, [40, 30], .ten, 0⟩,
  ⟨.none, [40, 40, 30], .none, 10⟩,
  ⟨.none, [40, 40, 30], .ten, 0⟩,
  ⟨.forty, [40, 40], .none, 0⟩,
  ⟨.forty, [40], .forty, 0⟩]

/-- R126, rows 120 to 156. -/
def formatRows120 : List PackageFormat := [
  ⟨.none, [40, 40, 40], .none, 0⟩,
  ⟨.none, [40, 40], .forty, 0⟩,
  ⟨.forty, [50, 30], .none, 0⟩,
  ⟨.forty, [50], .thirty, 0⟩,
  ⟨.none, [40, 50, 30], .none, 0⟩,
  ⟨.none, [40, 50], .thirty, 0⟩,
  ⟨.forty, [60], .none, 20⟩,
  ⟨.forty, [60], .twenty, 0⟩,
  ⟨.none, [40, 60], .none, 20⟩,
  ⟨.none, [40, 60], .twenty, 0⟩,
  ⟨.fifty, [30, 30], .none, 10⟩,
  ⟨.fifty, [30, 30], .ten, 0⟩,
  ⟨.none, [50, 30, 30], .none, 10⟩,
  ⟨.none, [50, 30, 30], .ten, 0⟩,
  ⟨.fifty, [30, 40], .none, 0⟩,
  ⟨.fifty, [30], .forty, 0⟩,
  ⟨.none, [50, 30, 40], .none, 0⟩,
  ⟨.none, [50, 30], .forty, 0⟩,
  ⟨.fifty, [40, 30], .none, 0⟩,
  ⟨.fifty, [40], .thirty, 0⟩,
  ⟨.none, [50, 40, 30], .none, 0⟩,
  ⟨.none, [50, 40], .thirty, 0⟩,
  ⟨.fifty, [50], .none, 20⟩,
  ⟨.fifty, [50], .twenty, 0⟩,
  ⟨.none, [50, 50], .none, 20⟩,
  ⟨.none, [50, 50], .twenty, 0⟩,
  ⟨.fifty, [60], .none, 10⟩,
  ⟨.fifty, [60], .ten, 0⟩,
  ⟨.none, [50, 60], .none, 10⟩,
  ⟨.none, [50, 60], .ten, 0⟩,
  ⟨.none, [60, 30, 30], .none, 0⟩,
  ⟨.none, [60, 30], .thirty, 0⟩,
  ⟨.none, [60, 40], .none, 20⟩,
  ⟨.none, [60, 40], .twenty, 0⟩,
  ⟨.none, [60, 50], .none, 10⟩,
  ⟨.none, [60, 50], .ten, 0⟩,
  ⟨.none, [60, 60], .none, 0⟩]

/-- `FMT(code)` of R126 for code 0 to 156, in order. -/
def formatTable : List PackageFormat :=
  formatRows0 ++ formatRows40 ++ formatRows80 ++ formatRows120

/-- The Format field of a package word (R121). -/
def formatField (w : Word) : Nat := (w.extractLsb' 0 8).toNat

/-- The format of a package word; none for the reserved codes 157 to 255 (R122). -/
def formatOf (w : Word) : Option PackageFormat := formatTable[formatField w]?

/-- The low bits of the Payload field as a trailing part of the given length (`Tpart` of R128). -/
def trailPart (w : Word) : PartLen → SpanPart
  | .none => .none
  | .ten => .p10 (w.extractLsb' 8 10)
  | .twenty => .p20 (w.extractLsb' 8 20)
  | .thirty => .p30 (w.extractLsb' 8 30)
  | .forty => .p40 (w.extractLsb' 8 40)
  | .fifty => .p50 (w.extractLsb' 8 50)

/-- The trailing part a package word declares; a reserved format declares none (R128, D11). -/
def trailOf (w : Word) : SpanPart :=
  match formatOf w with
  | some f => trailPart w f.t
  | none => .none

/-! ### Spanned instructions -/

/-- `agree(l, t)` of R130. -/
def agree (l t : PartLen) : Bool :=
  (l == .none && t == .none) || (l != .none && t != .none && [30, 40, 50, 60].contains (l.bits + t.bits))

/-- The instruction made of a leading and a trailing part, the trailing part high (R129); none where the two do not make an
instruction of 30, 40, 50 or 60 bits (R130). -/
def joinParts : SpanPart → SpanPart → Option InstrWord
  | .p10 a, .p20 b => some (.w30 (b ++ a))
  | .p10 a, .p30 b => some (.w40 (b ++ a))
  | .p10 a, .p40 b => some (.w50 (b ++ a))
  | .p10 a, .p50 b => some (.w60 (b ++ a))
  | .p20 a, .p10 b => some (.w30 (b ++ a))
  | .p20 a, .p20 b => some (.w40 (b ++ a))
  | .p20 a, .p30 b => some (.w50 (b ++ a))
  | .p20 a, .p40 b => some (.w60 (b ++ a))
  | .p30 a, .p10 b => some (.w40 (b ++ a))
  | .p30 a, .p20 b => some (.w50 (b ++ a))
  | .p30 a, .p30 b => some (.w60 (b ++ a))
  | .p40 a, .p10 b => some (.w50 (b ++ a))
  | .p40 a, .p20 b => some (.w60 (b ++ a))
  | .p50 a, .p10 b => some (.w60 (b ++ a))
  | _, _ => none

/-! ### Packages as sub-fields -/

/-- The sub-fields of a package row; none for the other rows. -/
def Instr.package? : Instr → Option Package
  | .pkg0 t i0 i1 i2 z => some ⟨.p10 t, [.w30 i0, .w30 i1, .w30 i2], .none, .z20 z⟩
  | .pkg1 t i0 i1 i2 i3L => some ⟨.p10 t, [.w30 i0, .w30 i1, .w30 i2], .p20 i3L, .none⟩
  | .pkg2 t i0 i1 i2 z => some ⟨.p10 t, [.w30 i0, .w30 i1, .w40 i2], .none, .z10 z⟩
  | .pkg3 t i0 i1 i2 i3L => some ⟨.p10 t, [.w30 i0, .w30 i1, .w40 i2], .p10 i3L, .none⟩
  | .pkg4 t i0 i1 i2 => some ⟨.p10 t, [.w30 i0, .w30 i1, .w50 i2], .none, .none⟩
  | .pkg5 t i0 i1 i2L => some ⟨.p10 t, [.w30 i0, .w30 i1], .p50 i2L, .none⟩
  | .pkg6 t i0 i1 i2 z => some ⟨.p10 t, [.w30 i0, .w40 i1, .w30 i2], .none, .z10 z⟩
  | .pkg7 t i0 i1 i2 i3L => some ⟨.p10 t, [.w30 i0, .w40 i1, .w30 i2], .p10 i3L, .none⟩
  | .pkg8 t i0 i1 i2 => some ⟨.p10 t, [.w30 i0, .w40 i1, .w40 i2], .none, .none⟩
  | .pkg9 t i0 i1 i2L => some ⟨.p10 t, [.w30 i0, .w40 i1], .p40 i2L, .none⟩
  | .pkg10 t i0 i1 i2 => some ⟨.p10 t, [.w30 i0, .w50 i1, .w30 i2], .none, .none⟩
  | .pkg11 t i0 i1 i2L => some ⟨.p10 t, [.w30 i0, .w50 i1], .p30 i2L, .none⟩
  | .pkg12 t i0 i1 z => some ⟨.p10 t, [.w30 i0, .w60 i1], .none, .z20 z⟩
  | .pkg13 t i0 i1 i2L => some ⟨.p10 t, [.w30 i0, .w60 i1], .p20 i2L, .none⟩
  | .pkg14 t i0 i1 i2 z => some ⟨.p10 t, [.w40 i0, .w30 i1, .w30 i2], .none, .z10 z⟩
  | .pkg15 t i0 i1 i2 i3L => some ⟨.p10 t, [.w40 i0, .w30 i1, .w30 i2], .p10 i3L, .none⟩
  | .pkg16 t i0 i1 i2 => some ⟨.p10 t, [.w40 i0, .w30 i1, .w40 i2], .none, .none⟩
  | .pkg17 t i0 i1 i2L => some ⟨.p10 t, [.w40 i0, .w30 i1], .p40 i2L, .none⟩
  | .pkg18 t i0 i1 i2 => some ⟨.p10 t, [.w40 i0, .w40 i1, .w30 i2], .none, .none⟩
  | .pkg19 t i0 i1 i2L => some ⟨.p10 t, [.w40 i0, .w40 i1], .p30 i2L, .none⟩
  | .pkg20 t i0 i1 z => some ⟨.p10 t, [.w40 i0, .w50 i1], .none, .z20 z⟩
  | .pkg21 t i0 i1 i2L => some ⟨.p10 t, [.w40 i0, .w50 i1], .p20 i2L, .none⟩
  | .pkg22 t i0 i1 z => some ⟨.p10 t, [.w40 i0, .w60 i1], .none, .z10 z⟩
  | .pkg23 t i0 i1 i2L => some ⟨.p10 t, [.w40 i0, .w60 i1], .p10 i2L, .none⟩
  | .pkg24 t i0 i1 i2 => some ⟨.p10 t, [.w50 i0, .w30 i1, .w30 i2], .none, .none⟩
  | .pkg25 t i0 i1 i2L => some ⟨.p10 t, [.w50 i0, .w30 i1], .p30 i2L, .none⟩
  | .pkg26 t i0 i1 z => some ⟨.p10 t, [.w50 i0, .w40 i1], .none, .z20 z⟩
  | .pkg27 t i0 i1 i2L => some ⟨.p10 t, [.w50 i0, .w40 i1], .p20 i2L, .none⟩
  | .pkg28 t i0 i1 z => some ⟨.p10 t, [.w50 i0, .w50 i1], .none, .z10 z⟩
  | .pkg29 t i0 i1 i2L => some ⟨.p10 t, [.w50 i0, .w50 i1], .p10 i2L, .none⟩
  | .pkg30 t i0 i1 => some ⟨.p10 t, [.w50 i0, .w60 i1], .none, .none⟩
  | .pkg31 t i0 i1 z => some ⟨.p10 t, [.w60 i0, .w30 i1], .none, .z20 z⟩
  | .pkg32 t i0 i1 i2L => some ⟨.p10 t, [.w60 i0, .w30 i1], .p20 i2L, .none⟩
  | .pkg33 t i0 i1 z => some ⟨.p10 t, [.w60 i0, .w40 i1], .none, .z10 z⟩
  | .pkg34 t i0 i1 i2L => some ⟨.p10 t, [.w60 i0, .w40 i1], .p10 i2L, .none⟩
  | .pkg35 t i0 i1 => some ⟨.p10 t, [.w60 i0, .w50 i1], .none, .none⟩
  | .pkg36 t i0 i1L => some ⟨.p10 t, [.w60 i0], .p50 i1L, .none⟩
  | .pkg37 t i0 i1 i2 z => some ⟨.p20 t, [.w30 i0, .w30 i1, .w30 i2], .none, .z10 z⟩
  | .pkg38 t i0 i1 i2 i3L => some ⟨.p20 t, [.w30 i0, .w30 i1, .w30 i2], .p10 i3L, .none⟩
  | .pkg39 t i0 i1 i2 => some ⟨.p20 t, [.w30 i0, .w30 i1, .w40 i2], .none, .none⟩
  | .pkg40 t i0 i1 i2L => some ⟨.p20 t, [.w30 i0, .w30 i1], .p40 i2L, .none⟩
  | .pkg41 t i0 i1 i2 => some ⟨.p20 t, [.w30 i0, .w40 i1, .w30 i2], .none, .none⟩
  | .pkg42 t i0 i1 i2L => some ⟨.p20 t, [.w30 i0, .w40 i1], .p30 i2L, .none⟩
  | .pkg43 t i0 i1 z => some ⟨.p20 t, [.w30 i0, .w50 i1], .none, .z20 z⟩
  | .pkg44 t i0 i1 i2L => some ⟨.p20 t, [.w30 i0, .w50 i1], .p20 i2L, .none⟩
  | .pkg45 t i0 i1 z => some ⟨.p20 t, [.w30 i0, .w60 i1], .none, .z10 z⟩
  | .pkg46 t i0 i1 i2L => some ⟨.p20 t, [.w30 i0, .w60 i1], .p10 i2L, .none⟩
  | .pkg47 t i0 i1 i2 => some ⟨.p20 t, [.w40 i0, .w30 i1, .w30 i2], .none, .none⟩
  | .pkg48 t i0 i1 i2L => some ⟨.p20 t, [.w40 i0, .w30 i1], .p30 i2L, .none⟩
  | .pkg49 t i0 i1 z => some ⟨.p20 t, [.w40 i0, .w40 i1], .none, .z20 z⟩
  | .pkg50 t i0 i1 i2L => some ⟨.p20 t, [.w40 i0, .w40 i1], .p20 i2L, .none⟩
  | .pkg51 t i0 i1 z => some ⟨.p20 t, [.w40 i0, .w50 i1], .none, .z10 z⟩
  | .pkg52 t i0 i1 i2L => some ⟨.p20 t, [.w40 i0, .w50 i1], .p10 i2L, .none⟩
  | .pkg53 t i0 i1 => some ⟨.p20 t, [.w40 i0, .w60 i1], .none, .none⟩
  | .pkg54 t i0 i1 z => some ⟨.p20 t, [.w50 i0, .w30 i1], .none, .z20 z⟩
  | .pkg55 t i0 i1 i2L => some ⟨.p20 t, [.w50 i0, .w30 i1], .p20 i2L, .none⟩
  | .pkg56 t i0 i1 z => some ⟨.p20 t, [.w50 i0, .w40 i1], .none, .z10 z⟩
  | .pkg57 t i0 i1 i2L => some ⟨.p20 t, [.w50 i0, .w40 i1], .p10 i2L, .none⟩
  | .pkg58 t i0 i1 => some ⟨.p20 t, [.w50 i0, .w50 i1], .none, .none⟩
  | .pkg59 t i0 i1L => some ⟨.p20 t, [.w50 i0], .p50 i1L, .none⟩
  | .pkg60 t i0 i1 z => some ⟨.p20 t, [.w60 i0, .w30 i1], .none, .z10 z⟩
  | .pkg61 t i0 i1 i2L => some ⟨.p20 t, [.w60 i0, .w30 i1], .p10 i2L, .none⟩
  | .pkg62 t i0 i1 => some ⟨.p20 t, [.w60 i0, .w40 i1], .none, .none⟩
  | .pkg63 t i0 i1L => some ⟨.p20 t, [.w60 i0], .p40 i1L, .none⟩
  | .pkg64 t i0 i1 i2 => some ⟨.p30 t, [.w30 i0, .w30 i1, .w30 i2], .none, .none⟩
  | .pkg65 t i0 i1 i2L => some ⟨.p30 t, [.w30 i0, .w30 i1], .p30 i2L, .none⟩
  | .pkg66 i0 i1 i2 i3 => some ⟨.none, [.w30 i0, .w30 i1, .w30 i2, .w30 i3], .none, .none⟩
  | .pkg67 i0 i1 i2 i3L => some ⟨.none, [.w30 i0, .w30 i1, .w30 i2], .p30 i3L, .none⟩
  | .pkg68 t i0 i1 z => some ⟨.p30 t, [.w30 i0, .w40 i1], .none, .z20 z⟩
  | .pkg69 t i0 i1 i2L => some ⟨.p30 t, [.w30 i0, .w40 i1], .p20 i2L, .none⟩
  | .pkg70 i0 i1 i2 z => some ⟨.none, [.w30 i0, .w30 i1, .w40 i2], .none, .z20 z⟩
  | .pkg71 i0 i1 i2 i3L => some ⟨.none, [.w30 i0, .w30 i1, .w40 i2], .p20 i3L, .none⟩
  | .pkg72 t i0 i1 z => some ⟨.p30 t, [.w30 i0, .w50 i1], .none, .z10 z⟩
  | .pkg73 t i0 i1 i2L => some ⟨.p30 t, [.w30 i0, .w50 i1], .p10 i2L, .none⟩
  | .pkg74 i0 i1 i2 z => some ⟨.none, [.w30 i0, .w30 i1, .w50 i2], .none, .z10 z⟩
  | .pkg75 i0 i1 i2 i3L => some ⟨.none, [.w30 i0, .w30 i1, .w50 i2], .p10 i3L, .none⟩
  | .pkg76 t i0 i1 => some ⟨.p30 t, [.w30 i0, .w60 i1], .none, .none⟩
  | .pkg77 i0 i1 i2 => some ⟨.none, [.w30 i0, .w30 i1, .w60 i2], .none, .none⟩
  | .pkg78 t i0 i1 z => some ⟨.p30 t, [.w40 i0, .w30 i1], .none, .z20 z⟩
  | .pkg79 t i0 i1 i2L => some ⟨.p30 t, [.w40 i0, .w30 i1], .p20 i2L, .none⟩
  | .pkg80 i0 i1 i2 z => some ⟨.none, [.w30 i0, .w40 i1, .w30 i2], .none, .z20 z⟩
  | .pkg81 i0 i1 i2 i3L => some ⟨.none, [.w30 i0, .w40 i1, .w30 i2], .p20 i3L, .none⟩
  | .pkg82 t i0 i1 z => some ⟨.p30 t, [.w40 i0, .w40 i1], .none, .z10 z⟩
  | .pkg83 t i0 i1 i2L => some ⟨.p30 t, [.w40 i0, .w40 i1], .p10 i2L, .none⟩
  | .pkg84 i0 i1 i2 z => some ⟨.none, [.w30 i0, .w40 i1, .w40 i2], .none, .z10 z⟩
  | .pkg85 i0 i1 i2 i3L => some ⟨.none, [.w30 i0, .w40 i1, .w40 i2], .p10 i3L, .none⟩
  | .pkg86 t i0 i1 => some ⟨.p30 t, [.w40 i0, .w50 i1], .none, .none⟩
  | .pkg87 t i0 i1L => some ⟨.p30 t, [.w40 i0], .p50 i1L, .none⟩
  | .pkg88 i0 i1 i2 => some ⟨.none, [.w30 i0, .w40 i1, .w50 i2], .none, .none⟩
  | .pkg89 i0 i1 i2L => some ⟨.none, [.w30 i0, .w40 i1], .p50 i2L, .none⟩
  | .pkg90 t i0 i1 z => some ⟨.p30 t, [.w50 i0, .w30 i1], .none, .z10 z⟩
  | .pkg91 t i0 i1 i2L => some ⟨.p30 t, [.w50 i0, .w30 i1], .p10 i2L, .none⟩
  | .pkg92 i0 i1 i2 z => some ⟨.none, [.w30 i0, .w50 i1, .w30 i2], .none, .z10 z⟩
  | .pkg93 i0 i1 i2 i3L => some ⟨.none, [.w30 i0, .w50 i1, .w30 i2], .p10 i3L, .none⟩
  | .pkg94 t i0 i1 => some ⟨.p30 t, [.w50 i0, .w40 i1], .none, .none⟩
  | .pkg95 t i0 i1L => some ⟨.p30 t, [.w50 i0], .p40 i1L, .none⟩
  | .pkg96 i0 i1 i2 => some ⟨.none, [.w30 i0, .w50 i1, .w40 i2], .none, .none⟩
  | .pkg97 i0 i1 i2L => some ⟨.none, [.w30 i0, .w50 i1], .p40 i2L, .none⟩
  | .pkg98 t i0 i1 => some ⟨.p30 t, [.w60 i0, .w30 i1], .none, .none⟩
  | .pkg99 t i0 i1L => some ⟨.p30 t, [.w60 i0], .p30 i1L, .none⟩
  | .pkg100 i0 i1 i2 => some ⟨.none, [.w30 i0, .w60 i1, .w30 i2], .none, .none⟩
  | .pkg101 i0 i1 i2L => some ⟨.none, [.w30 i0, .w60 i1], .p30 i2L, .none⟩
  | .pkg102 t i0 i1 z => some ⟨.p40 t, [.w30 i0, .w30 i1], .none, .z20 z⟩
  | .pkg103 t i0 i1 i2L => some ⟨.p40 t, [.w30 i0, .w30 i1], .p20 i2L, .none⟩
  | .pkg104 i0 i1 i2 z => some ⟨.none, [.w40 i0, .w30 i1, .w30 i2], .none, .z20 z⟩
  | .pkg105 i0 i1 i2 i3L => some ⟨.none, [.w40 i0, .w30 i1, .w30 i2], .p20 i3L, .none⟩
  | .pkg106 t i0 i1 z => some ⟨.p40 t, [.w30 i0, .w40 i1], .none, .z10 z⟩
  | .pkg107 t i0 i1 i2L => some ⟨.p40 t, [.w30 i0, .w40 i1], .p10 i2L, .none⟩
  | .pkg108 i0 i1 i2 z => some ⟨.none, [.w40 i0, .w30 i1, .w40 i2], .none, .z10 z⟩
  | .pkg109 i0 i1 i2 i3L => some ⟨.none, [.w40 i0, .w30 i1, .w40 i2], .p10 i3L, .none⟩
  | .pkg110 t i0 i1 => some ⟨.p40 t, [.w30 i0, .w50 i1], .none, .none⟩
  | .pkg111 t i0 i1L => some ⟨.p40 t, [.w30 i0], .p50 i1L, .none⟩
  | .pkg112 i0 i1 i2 => some ⟨.none, [.w40 i0, .w30 i1, .w50 i2], .none, .none⟩
  | .pkg113 i0 i1 i2L => some ⟨.none, [.w40 i0, .w30 i1], .p50 i2L, .none⟩
  | .pkg114 t i0 i1 z => some ⟨.p40 t, [.w40 i0, .w30 i1], .none, .z10 z⟩
  | .pkg115 t i0 i1 i2L => some ⟨.p40 t, [.w40 i0, .w30 i1], .p10 i2L, .none⟩
  | .pkg116 i0 i1 i2 z => some ⟨.none, [.w40 i0, .w40 i1, .w30 i2], .none, .z10 z⟩
  | .pkg117 i0 i1 i2 i3L => some ⟨.none, [.w40 i0, .w40 i1, .w30 i2], .p10 i3L, .none⟩
  | .pkg118 t i0 i1 => some ⟨.p40 t, [.w40 i0, .w40 i1], .none, .none⟩
  | .pkg119 t i0 i1L => some ⟨.p40 t, [.w40 i0], .p40 i1L, .none⟩
  | .pkg120 i0 i1 i2 => some ⟨.none, [.w40 i0, .w40 i1, .w40 i2], .none, .none⟩
  | .pkg121 i0 i1 i2L => some ⟨.none, [.w40 i0, .w40 i1], .p40 i2L, .none⟩
  | .pkg122 t i0 i1 => some ⟨.p40 t, [.w50 i0, .w30 i1], .none, .none⟩
  | .pkg123 t i0 i1L => some ⟨.p40 t, [.w50 i0], .p30 i1L, .none⟩
  | .pkg124 i0 i1 i2 => some ⟨.none, [.w40 i0, .w50 i1, .w30 i2], .none, .none⟩
  | .pkg125 i0 i1 i2L => some ⟨.none, [.w40 i0, .w50 i1], .p30 i2L, .none⟩
  | .pkg126 t i0 z => some ⟨.p40 t, [.w60 i0], .none, .z20 z⟩
  | .pkg127 t i0 i1L => some ⟨.p40 t, [.w60 i0], .p20 i1L, .none⟩
  | .pkg128 i0 i1 z => some ⟨.none, [.w40 i0, .w60 i1], .none, .z20 z⟩
  | .pkg129 i0 i1 i2L => some ⟨.none, [.w40 i0, .w60 i1], .p20 i2L, .none⟩
  | .pkg130 t i0 i1 z => some ⟨.p50 t, [.w30 i0, .w30 i1], .none, .z10 z⟩
  | .pkg131 t i0 i1 i2L => some ⟨.p50 t, [.w30 i0, .w30 i1], .p10 i2L, .none⟩
  | .pkg132 i0 i1 i2 z => some ⟨.none, [.w50 i0, .w30 i1, .w30 i2], .none, .z10 z⟩
  | .pkg133 i0 i1 i2 i3L => some ⟨.none, [.w50 i0, .w30 i1, .w30 i2], .p10 i3L, .none⟩
  | .pkg134 t i0 i1 => some ⟨.p50 t, [.w30 i0, .w40 i1], .none, .none⟩
  | .pkg135 t i0 i1L => some ⟨.p50 t, [.w30 i0], .p40 i1L, .none⟩
  | .pkg136 i0 i1 i2 => some ⟨.none, [.w50 i0, .w30 i1, .w40 i2], .none, .none⟩
  | .pkg137 i0 i1 i2L => some ⟨.none, [.w50 i0, .w30 i1], .p40 i2L, .none⟩
  | .pkg138 t i0 i1 => some ⟨.p50 t, [.w40 i0, .w30 i1], .none, .none⟩
  | .pkg139 t i0 i1L => some ⟨.p50 t, [.w40 i0], .p30 i1L, .none⟩
  | .pkg140 i0 i1 i2 => some ⟨.none, [.w50 i0, .w40 i1, .w30 i2], .none, .none⟩
  | .pkg141 i0 i1 i2L => some ⟨.none, [.w50 i0, .w40 i1], .p30 i2L, .none⟩
  | .pkg142 t i0 z => some ⟨.p50 t, [.w50 i0], .none, .z20 z⟩
  | .pkg143 t i0 i1L => some ⟨.p50 t, [.w50 i0], .p20 i1L, .none⟩
  | .pkg144 i0 i1 z => some ⟨.none, [.w50 i0, .w50 i1], .none, .z20 z⟩
  | .pkg145 i0 i1 i2L => some ⟨.none, [.w50 i0, .w50 i1], .p20 i2L, .none⟩
  | .pkg146 t i0 z => some ⟨.p50 t, [.w60 i0], .none, .z10 z⟩
  | .pkg147 t i0 i1L => some ⟨.p50 t, [.w60 i0], .p10 i1L, .none⟩
  | .pkg148 i0 i1 z => some ⟨.none, [.w50 i0, .w60 i1], .none, .z10 z⟩
  | .pkg149 i0 i1 i2L => some ⟨.none, [.w50 i0, .w60 i1], .p10 i2L, .none⟩
  | .pkg150 i0 i1 i2 => some ⟨.none, [.w60 i0, .w30 i1, .w30 i2], .none, .none⟩
  | .pkg151 i0 i1 i2L => some ⟨.none, [.w60 i0, .w30 i1], .p30 i2L, .none⟩
  | .pkg152 i0 i1 z => some ⟨.none, [.w60 i0, .w40 i1], .none, .z20 z⟩
  | .pkg153 i0 i1 i2L => some ⟨.none, [.w60 i0, .w40 i1], .p20 i2L, .none⟩
  | .pkg154 i0 i1 z => some ⟨.none, [.w60 i0, .w50 i1], .none, .z10 z⟩
  | .pkg155 i0 i1 i2L => some ⟨.none, [.w60 i0, .w50 i1], .p10 i2L, .none⟩
  | .pkg156 i0 i1 => some ⟨.none, [.w60 i0, .w60 i1], .none, .none⟩
  | .i30Popc0 _ => none
  | .i30Popc1 _ => none
  | .i30Popc2 _ => none
  | .i30Popc3 _ => none
  | .i30Popc4 _ => none
  | .i30Popc5 _ => none
  | .i30Popc6 _ => none
  | .i30Popc7 _ => none
  | .i40Popc0 _ => none
  | .i40Popc1 _ => none
  | .i40Popc2 _ => none
  | .i40Popc3 _ => none
  | .i40Popc4 _ => none
  | .i40Popc5 _ => none
  | .i40Popc6 _ => none
  | .i40Popc7 _ => none
  | .i50Popc0 _ => none
  | .i50Popc1 _ => none
  | .i50Popc2 _ => none
  | .i50Popc3 _ => none
  | .i50Popc4 _ => none
  | .i50Popc5 _ => none
  | .i50Popc6 _ => none
  | .i50Popc7 _ => none
  | .i60Popc0 _ => none
  | .i60Popc1 _ => none
  | .i60Popc2 _ => none
  | .i60Popc3 _ => none
  | .i60Popc4 _ => none
  | .i60Popc5 _ => none
  | .i60Popc6 _ => none
  | .i60Popc7 _ => none
  | .aviObtain _ => none
  | .aeQuery _ => none
  | .integerCarry _ => none
  | .vector _ => none
  | .elementExtract _ => none
  | .elementDeposit _ => none
  | .loadWordAddressed _ => none
  | .storeWordAddressed _ => none
  | .loadOctetAddressed _ => none
  | .storeOctetAddressed _ => none
  | .memoryBarrier _ => none
  | .storeAtomic _ => none
  | .controlFlow _ => none
  | .internalInterrupt _ => none
  | .sendInterrupt _ => none
  | .null _ => none
  | .privilegedState _ => none

/-! ### The decoder -/

/-- What the decoder is given: a package word, or an instruction word with its length (R132). -/
inductive Code where
  | package (w : Word)
  | instruction (w : InstrWord)
  deriving DecidableEq, Repr

/-- Why the decoder refuses: the Format field holds one of the reserved values 157 to 255 (R122). Safe: the step takes
the exception R167 names. -/
inductive DecodeError where
  | reservedFormat
  deriving DecidableEq, Repr

/-- R126, rows 0 to 39, by package bits (R121: payload bit j is package bit j + 8). -/
def packageRows0 : List (Word → Instr) := [
  fun w => .pkg0 (w.extractLsb' 8 10) (w.extractLsb' 18 30) (w.extractLsb' 48 30) (w.extractLsb' 78 30) (w.extractLsb' 108 20),
  fun w => .pkg1 (w.extractLsb' 8 10) (w.extractLsb' 18 30) (w.extractLsb' 48 30) (w.extractLsb' 78 30) (w.extractLsb' 108 20),
  fun w => .pkg2 (w.extractLsb' 8 10) (w.extractLsb' 18 30) (w.extractLsb' 48 30) (w.extractLsb' 78 40) (w.extractLsb' 118 10),
  fun w => .pkg3 (w.extractLsb' 8 10) (w.extractLsb' 18 30) (w.extractLsb' 48 30) (w.extractLsb' 78 40) (w.extractLsb' 118 10),
  fun w => .pkg4 (w.extractLsb' 8 10) (w.extractLsb' 18 30) (w.extractLsb' 48 30) (w.extractLsb' 78 50),
  fun w => .pkg5 (w.extractLsb' 8 10) (w.extractLsb' 18 30) (w.extractLsb' 48 30) (w.extractLsb' 78 50),
  fun w => .pkg6 (w.extractLsb' 8 10) (w.extractLsb' 18 30) (w.extractLsb' 48 40) (w.extractLsb' 88 30) (w.extractLsb' 118 10),
  fun w => .pkg7 (w.extractLsb' 8 10) (w.extractLsb' 18 30) (w.extractLsb' 48 40) (w.extractLsb' 88 30) (w.extractLsb' 118 10),
  fun w => .pkg8 (w.extractLsb' 8 10) (w.extractLsb' 18 30) (w.extractLsb' 48 40) (w.extractLsb' 88 40),
  fun w => .pkg9 (w.extractLsb' 8 10) (w.extractLsb' 18 30) (w.extractLsb' 48 40) (w.extractLsb' 88 40),
  fun w => .pkg10 (w.extractLsb' 8 10) (w.extractLsb' 18 30) (w.extractLsb' 48 50) (w.extractLsb' 98 30),
  fun w => .pkg11 (w.extractLsb' 8 10) (w.extractLsb' 18 30) (w.extractLsb' 48 50) (w.extractLsb' 98 30),
  fun w => .pkg12 (w.extractLsb' 8 10) (w.extractLsb' 18 30) (w.extractLsb' 48 60) (w.extractLsb' 108 20),
  fun w => .pkg13 (w.extractLsb' 8 10) (w.extractLsb' 18 30) (w.extractLsb' 48 60) (w.extractLsb' 108 20),
  fun w => .pkg14 (w.extractLsb' 8 10) (w.extractLsb' 18 40) (w.extractLsb' 58 30) (w.extractLsb' 88 30) (w.extractLsb' 118 10),
  fun w => .pkg15 (w.extractLsb' 8 10) (w.extractLsb' 18 40) (w.extractLsb' 58 30) (w.extractLsb' 88 30) (w.extractLsb' 118 10),
  fun w => .pkg16 (w.extractLsb' 8 10) (w.extractLsb' 18 40) (w.extractLsb' 58 30) (w.extractLsb' 88 40),
  fun w => .pkg17 (w.extractLsb' 8 10) (w.extractLsb' 18 40) (w.extractLsb' 58 30) (w.extractLsb' 88 40),
  fun w => .pkg18 (w.extractLsb' 8 10) (w.extractLsb' 18 40) (w.extractLsb' 58 40) (w.extractLsb' 98 30),
  fun w => .pkg19 (w.extractLsb' 8 10) (w.extractLsb' 18 40) (w.extractLsb' 58 40) (w.extractLsb' 98 30),
  fun w => .pkg20 (w.extractLsb' 8 10) (w.extractLsb' 18 40) (w.extractLsb' 58 50) (w.extractLsb' 108 20),
  fun w => .pkg21 (w.extractLsb' 8 10) (w.extractLsb' 18 40) (w.extractLsb' 58 50) (w.extractLsb' 108 20),
  fun w => .pkg22 (w.extractLsb' 8 10) (w.extractLsb' 18 40) (w.extractLsb' 58 60) (w.extractLsb' 118 10),
  fun w => .pkg23 (w.extractLsb' 8 10) (w.extractLsb' 18 40) (w.extractLsb' 58 60) (w.extractLsb' 118 10),
  fun w => .pkg24 (w.extractLsb' 8 10) (w.extractLsb' 18 50) (w.extractLsb' 68 30) (w.extractLsb' 98 30),
  fun w => .pkg25 (w.extractLsb' 8 10) (w.extractLsb' 18 50) (w.extractLsb' 68 30) (w.extractLsb' 98 30),
  fun w => .pkg26 (w.extractLsb' 8 10) (w.extractLsb' 18 50) (w.extractLsb' 68 40) (w.extractLsb' 108 20),
  fun w => .pkg27 (w.extractLsb' 8 10) (w.extractLsb' 18 50) (w.extractLsb' 68 40) (w.extractLsb' 108 20),
  fun w => .pkg28 (w.extractLsb' 8 10) (w.extractLsb' 18 50) (w.extractLsb' 68 50) (w.extractLsb' 118 10),
  fun w => .pkg29 (w.extractLsb' 8 10) (w.extractLsb' 18 50) (w.extractLsb' 68 50) (w.extractLsb' 118 10),
  fun w => .pkg30 (w.extractLsb' 8 10) (w.extractLsb' 18 50) (w.extractLsb' 68 60),
  fun w => .pkg31 (w.extractLsb' 8 10) (w.extractLsb' 18 60) (w.extractLsb' 78 30) (w.extractLsb' 108 20),
  fun w => .pkg32 (w.extractLsb' 8 10) (w.extractLsb' 18 60) (w.extractLsb' 78 30) (w.extractLsb' 108 20),
  fun w => .pkg33 (w.extractLsb' 8 10) (w.extractLsb' 18 60) (w.extractLsb' 78 40) (w.extractLsb' 118 10),
  fun w => .pkg34 (w.extractLsb' 8 10) (w.extractLsb' 18 60) (w.extractLsb' 78 40) (w.extractLsb' 118 10),
  fun w => .pkg35 (w.extractLsb' 8 10) (w.extractLsb' 18 60) (w.extractLsb' 78 50),
  fun w => .pkg36 (w.extractLsb' 8 10) (w.extractLsb' 18 60) (w.extractLsb' 78 50),
  fun w => .pkg37 (w.extractLsb' 8 20) (w.extractLsb' 28 30) (w.extractLsb' 58 30) (w.extractLsb' 88 30) (w.extractLsb' 118 10),
  fun w => .pkg38 (w.extractLsb' 8 20) (w.extractLsb' 28 30) (w.extractLsb' 58 30) (w.extractLsb' 88 30) (w.extractLsb' 118 10),
  fun w => .pkg39 (w.extractLsb' 8 20) (w.extractLsb' 28 30) (w.extractLsb' 58 30) (w.extractLsb' 88 40)]

/-- R126, rows 40 to 79, by package bits (R121: payload bit j is package bit j + 8). -/
def packageRows40 : List (Word → Instr) := [
  fun w => .pkg40 (w.extractLsb' 8 20) (w.extractLsb' 28 30) (w.extractLsb' 58 30) (w.extractLsb' 88 40),
  fun w => .pkg41 (w.extractLsb' 8 20) (w.extractLsb' 28 30) (w.extractLsb' 58 40) (w.extractLsb' 98 30),
  fun w => .pkg42 (w.extractLsb' 8 20) (w.extractLsb' 28 30) (w.extractLsb' 58 40) (w.extractLsb' 98 30),
  fun w => .pkg43 (w.extractLsb' 8 20) (w.extractLsb' 28 30) (w.extractLsb' 58 50) (w.extractLsb' 108 20),
  fun w => .pkg44 (w.extractLsb' 8 20) (w.extractLsb' 28 30) (w.extractLsb' 58 50) (w.extractLsb' 108 20),
  fun w => .pkg45 (w.extractLsb' 8 20) (w.extractLsb' 28 30) (w.extractLsb' 58 60) (w.extractLsb' 118 10),
  fun w => .pkg46 (w.extractLsb' 8 20) (w.extractLsb' 28 30) (w.extractLsb' 58 60) (w.extractLsb' 118 10),
  fun w => .pkg47 (w.extractLsb' 8 20) (w.extractLsb' 28 40) (w.extractLsb' 68 30) (w.extractLsb' 98 30),
  fun w => .pkg48 (w.extractLsb' 8 20) (w.extractLsb' 28 40) (w.extractLsb' 68 30) (w.extractLsb' 98 30),
  fun w => .pkg49 (w.extractLsb' 8 20) (w.extractLsb' 28 40) (w.extractLsb' 68 40) (w.extractLsb' 108 20),
  fun w => .pkg50 (w.extractLsb' 8 20) (w.extractLsb' 28 40) (w.extractLsb' 68 40) (w.extractLsb' 108 20),
  fun w => .pkg51 (w.extractLsb' 8 20) (w.extractLsb' 28 40) (w.extractLsb' 68 50) (w.extractLsb' 118 10),
  fun w => .pkg52 (w.extractLsb' 8 20) (w.extractLsb' 28 40) (w.extractLsb' 68 50) (w.extractLsb' 118 10),
  fun w => .pkg53 (w.extractLsb' 8 20) (w.extractLsb' 28 40) (w.extractLsb' 68 60),
  fun w => .pkg54 (w.extractLsb' 8 20) (w.extractLsb' 28 50) (w.extractLsb' 78 30) (w.extractLsb' 108 20),
  fun w => .pkg55 (w.extractLsb' 8 20) (w.extractLsb' 28 50) (w.extractLsb' 78 30) (w.extractLsb' 108 20),
  fun w => .pkg56 (w.extractLsb' 8 20) (w.extractLsb' 28 50) (w.extractLsb' 78 40) (w.extractLsb' 118 10),
  fun w => .pkg57 (w.extractLsb' 8 20) (w.extractLsb' 28 50) (w.extractLsb' 78 40) (w.extractLsb' 118 10),
  fun w => .pkg58 (w.extractLsb' 8 20) (w.extractLsb' 28 50) (w.extractLsb' 78 50),
  fun w => .pkg59 (w.extractLsb' 8 20) (w.extractLsb' 28 50) (w.extractLsb' 78 50),
  fun w => .pkg60 (w.extractLsb' 8 20) (w.extractLsb' 28 60) (w.extractLsb' 88 30) (w.extractLsb' 118 10),
  fun w => .pkg61 (w.extractLsb' 8 20) (w.extractLsb' 28 60) (w.extractLsb' 88 30) (w.extractLsb' 118 10),
  fun w => .pkg62 (w.extractLsb' 8 20) (w.extractLsb' 28 60) (w.extractLsb' 88 40),
  fun w => .pkg63 (w.extractLsb' 8 20) (w.extractLsb' 28 60) (w.extractLsb' 88 40),
  fun w => .pkg64 (w.extractLsb' 8 30) (w.extractLsb' 38 30) (w.extractLsb' 68 30) (w.extractLsb' 98 30),
  fun w => .pkg65 (w.extractLsb' 8 30) (w.extractLsb' 38 30) (w.extractLsb' 68 30) (w.extractLsb' 98 30),
  fun w => .pkg66 (w.extractLsb' 8 30) (w.extractLsb' 38 30) (w.extractLsb' 68 30) (w.extractLsb' 98 30),
  fun w => .pkg67 (w.extractLsb' 8 30) (w.extractLsb' 38 30) (w.extractLsb' 68 30) (w.extractLsb' 98 30),
  fun w => .pkg68 (w.extractLsb' 8 30) (w.extractLsb' 38 30) (w.extractLsb' 68 40) (w.extractLsb' 108 20),
  fun w => .pkg69 (w.extractLsb' 8 30) (w.extractLsb' 38 30) (w.extractLsb' 68 40) (w.extractLsb' 108 20),
  fun w => .pkg70 (w.extractLsb' 8 30) (w.extractLsb' 38 30) (w.extractLsb' 68 40) (w.extractLsb' 108 20),
  fun w => .pkg71 (w.extractLsb' 8 30) (w.extractLsb' 38 30) (w.extractLsb' 68 40) (w.extractLsb' 108 20),
  fun w => .pkg72 (w.extractLsb' 8 30) (w.extractLsb' 38 30) (w.extractLsb' 68 50) (w.extractLsb' 118 10),
  fun w => .pkg73 (w.extractLsb' 8 30) (w.extractLsb' 38 30) (w.extractLsb' 68 50) (w.extractLsb' 118 10),
  fun w => .pkg74 (w.extractLsb' 8 30) (w.extractLsb' 38 30) (w.extractLsb' 68 50) (w.extractLsb' 118 10),
  fun w => .pkg75 (w.extractLsb' 8 30) (w.extractLsb' 38 30) (w.extractLsb' 68 50) (w.extractLsb' 118 10),
  fun w => .pkg76 (w.extractLsb' 8 30) (w.extractLsb' 38 30) (w.extractLsb' 68 60),
  fun w => .pkg77 (w.extractLsb' 8 30) (w.extractLsb' 38 30) (w.extractLsb' 68 60),
  fun w => .pkg78 (w.extractLsb' 8 30) (w.extractLsb' 38 40) (w.extractLsb' 78 30) (w.extractLsb' 108 20),
  fun w => .pkg79 (w.extractLsb' 8 30) (w.extractLsb' 38 40) (w.extractLsb' 78 30) (w.extractLsb' 108 20)]

/-- R126, rows 80 to 119, by package bits (R121: payload bit j is package bit j + 8). -/
def packageRows80 : List (Word → Instr) := [
  fun w => .pkg80 (w.extractLsb' 8 30) (w.extractLsb' 38 40) (w.extractLsb' 78 30) (w.extractLsb' 108 20),
  fun w => .pkg81 (w.extractLsb' 8 30) (w.extractLsb' 38 40) (w.extractLsb' 78 30) (w.extractLsb' 108 20),
  fun w => .pkg82 (w.extractLsb' 8 30) (w.extractLsb' 38 40) (w.extractLsb' 78 40) (w.extractLsb' 118 10),
  fun w => .pkg83 (w.extractLsb' 8 30) (w.extractLsb' 38 40) (w.extractLsb' 78 40) (w.extractLsb' 118 10),
  fun w => .pkg84 (w.extractLsb' 8 30) (w.extractLsb' 38 40) (w.extractLsb' 78 40) (w.extractLsb' 118 10),
  fun w => .pkg85 (w.extractLsb' 8 30) (w.extractLsb' 38 40) (w.extractLsb' 78 40) (w.extractLsb' 118 10),
  fun w => .pkg86 (w.extractLsb' 8 30) (w.extractLsb' 38 40) (w.extractLsb' 78 50),
  fun w => .pkg87 (w.extractLsb' 8 30) (w.extractLsb' 38 40) (w.extractLsb' 78 50),
  fun w => .pkg88 (w.extractLsb' 8 30) (w.extractLsb' 38 40) (w.extractLsb' 78 50),
  fun w => .pkg89 (w.extractLsb' 8 30) (w.extractLsb' 38 40) (w.extractLsb' 78 50),
  fun w => .pkg90 (w.extractLsb' 8 30) (w.extractLsb' 38 50) (w.extractLsb' 88 30) (w.extractLsb' 118 10),
  fun w => .pkg91 (w.extractLsb' 8 30) (w.extractLsb' 38 50) (w.extractLsb' 88 30) (w.extractLsb' 118 10),
  fun w => .pkg92 (w.extractLsb' 8 30) (w.extractLsb' 38 50) (w.extractLsb' 88 30) (w.extractLsb' 118 10),
  fun w => .pkg93 (w.extractLsb' 8 30) (w.extractLsb' 38 50) (w.extractLsb' 88 30) (w.extractLsb' 118 10),
  fun w => .pkg94 (w.extractLsb' 8 30) (w.extractLsb' 38 50) (w.extractLsb' 88 40),
  fun w => .pkg95 (w.extractLsb' 8 30) (w.extractLsb' 38 50) (w.extractLsb' 88 40),
  fun w => .pkg96 (w.extractLsb' 8 30) (w.extractLsb' 38 50) (w.extractLsb' 88 40),
  fun w => .pkg97 (w.extractLsb' 8 30) (w.extractLsb' 38 50) (w.extractLsb' 88 40),
  fun w => .pkg98 (w.extractLsb' 8 30) (w.extractLsb' 38 60) (w.extractLsb' 98 30),
  fun w => .pkg99 (w.extractLsb' 8 30) (w.extractLsb' 38 60) (w.extractLsb' 98 30),
  fun w => .pkg100 (w.extractLsb' 8 30) (w.extractLsb' 38 60) (w.extractLsb' 98 30),
  fun w => .pkg101 (w.extractLsb' 8 30) (w.extractLsb' 38 60) (w.extractLsb' 98 30),
  fun w => .pkg102 (w.extractLsb' 8 40) (w.extractLsb' 48 30) (w.extractLsb' 78 30) (w.extractLsb' 108 20),
  fun w => .pkg103 (w.extractLsb' 8 40) (w.extractLsb' 48 30) (w.extractLsb' 78 30) (w.extractLsb' 108 20),
  fun w => .pkg104 (w.extractLsb' 8 40) (w.extractLsb' 48 30) (w.extractLsb' 78 30) (w.extractLsb' 108 20),
  fun w => .pkg105 (w.extractLsb' 8 40) (w.extractLsb' 48 30) (w.extractLsb' 78 30) (w.extractLsb' 108 20),
  fun w => .pkg106 (w.extractLsb' 8 40) (w.extractLsb' 48 30) (w.extractLsb' 78 40) (w.extractLsb' 118 10),
  fun w => .pkg107 (w.extractLsb' 8 40) (w.extractLsb' 48 30) (w.extractLsb' 78 40) (w.extractLsb' 118 10),
  fun w => .pkg108 (w.extractLsb' 8 40) (w.extractLsb' 48 30) (w.extractLsb' 78 40) (w.extractLsb' 118 10),
  fun w => .pkg109 (w.extractLsb' 8 40) (w.extractLsb' 48 30) (w.extractLsb' 78 40) (w.extractLsb' 118 10),
  fun w => .pkg110 (w.extractLsb' 8 40) (w.extractLsb' 48 30) (w.extractLsb' 78 50),
  fun w => .pkg111 (w.extractLsb' 8 40) (w.extractLsb' 48 30) (w.extractLsb' 78 50),
  fun w => .pkg112 (w.extractLsb' 8 40) (w.extractLsb' 48 30) (w.extractLsb' 78 50),
  fun w => .pkg113 (w.extractLsb' 8 40) (w.extractLsb' 48 30) (w.extractLsb' 78 50),
  fun w => .pkg114 (w.extractLsb' 8 40) (w.extractLsb' 48 40) (w.extractLsb' 88 30) (w.extractLsb' 118 10),
  fun w => .pkg115 (w.extractLsb' 8 40) (w.extractLsb' 48 40) (w.extractLsb' 88 30) (w.extractLsb' 118 10),
  fun w => .pkg116 (w.extractLsb' 8 40) (w.extractLsb' 48 40) (w.extractLsb' 88 30) (w.extractLsb' 118 10),
  fun w => .pkg117 (w.extractLsb' 8 40) (w.extractLsb' 48 40) (w.extractLsb' 88 30) (w.extractLsb' 118 10),
  fun w => .pkg118 (w.extractLsb' 8 40) (w.extractLsb' 48 40) (w.extractLsb' 88 40),
  fun w => .pkg119 (w.extractLsb' 8 40) (w.extractLsb' 48 40) (w.extractLsb' 88 40)]

/-- R126, rows 120 to 156, by package bits (R121: payload bit j is package bit j + 8). -/
def packageRows120 : List (Word → Instr) := [
  fun w => .pkg120 (w.extractLsb' 8 40) (w.extractLsb' 48 40) (w.extractLsb' 88 40),
  fun w => .pkg121 (w.extractLsb' 8 40) (w.extractLsb' 48 40) (w.extractLsb' 88 40),
  fun w => .pkg122 (w.extractLsb' 8 40) (w.extractLsb' 48 50) (w.extractLsb' 98 30),
  fun w => .pkg123 (w.extractLsb' 8 40) (w.extractLsb' 48 50) (w.extractLsb' 98 30),
  fun w => .pkg124 (w.extractLsb' 8 40) (w.extractLsb' 48 50) (w.extractLsb' 98 30),
  fun w => .pkg125 (w.extractLsb' 8 40) (w.extractLsb' 48 50) (w.extractLsb' 98 30),
  fun w => .pkg126 (w.extractLsb' 8 40) (w.extractLsb' 48 60) (w.extractLsb' 108 20),
  fun w => .pkg127 (w.extractLsb' 8 40) (w.extractLsb' 48 60) (w.extractLsb' 108 20),
  fun w => .pkg128 (w.extractLsb' 8 40) (w.extractLsb' 48 60) (w.extractLsb' 108 20),
  fun w => .pkg129 (w.extractLsb' 8 40) (w.extractLsb' 48 60) (w.extractLsb' 108 20),
  fun w => .pkg130 (w.extractLsb' 8 50) (w.extractLsb' 58 30) (w.extractLsb' 88 30) (w.extractLsb' 118 10),
  fun w => .pkg131 (w.extractLsb' 8 50) (w.extractLsb' 58 30) (w.extractLsb' 88 30) (w.extractLsb' 118 10),
  fun w => .pkg132 (w.extractLsb' 8 50) (w.extractLsb' 58 30) (w.extractLsb' 88 30) (w.extractLsb' 118 10),
  fun w => .pkg133 (w.extractLsb' 8 50) (w.extractLsb' 58 30) (w.extractLsb' 88 30) (w.extractLsb' 118 10),
  fun w => .pkg134 (w.extractLsb' 8 50) (w.extractLsb' 58 30) (w.extractLsb' 88 40),
  fun w => .pkg135 (w.extractLsb' 8 50) (w.extractLsb' 58 30) (w.extractLsb' 88 40),
  fun w => .pkg136 (w.extractLsb' 8 50) (w.extractLsb' 58 30) (w.extractLsb' 88 40),
  fun w => .pkg137 (w.extractLsb' 8 50) (w.extractLsb' 58 30) (w.extractLsb' 88 40),
  fun w => .pkg138 (w.extractLsb' 8 50) (w.extractLsb' 58 40) (w.extractLsb' 98 30),
  fun w => .pkg139 (w.extractLsb' 8 50) (w.extractLsb' 58 40) (w.extractLsb' 98 30),
  fun w => .pkg140 (w.extractLsb' 8 50) (w.extractLsb' 58 40) (w.extractLsb' 98 30),
  fun w => .pkg141 (w.extractLsb' 8 50) (w.extractLsb' 58 40) (w.extractLsb' 98 30),
  fun w => .pkg142 (w.extractLsb' 8 50) (w.extractLsb' 58 50) (w.extractLsb' 108 20),
  fun w => .pkg143 (w.extractLsb' 8 50) (w.extractLsb' 58 50) (w.extractLsb' 108 20),
  fun w => .pkg144 (w.extractLsb' 8 50) (w.extractLsb' 58 50) (w.extractLsb' 108 20),
  fun w => .pkg145 (w.extractLsb' 8 50) (w.extractLsb' 58 50) (w.extractLsb' 108 20),
  fun w => .pkg146 (w.extractLsb' 8 50) (w.extractLsb' 58 60) (w.extractLsb' 118 10),
  fun w => .pkg147 (w.extractLsb' 8 50) (w.extractLsb' 58 60) (w.extractLsb' 118 10),
  fun w => .pkg148 (w.extractLsb' 8 50) (w.extractLsb' 58 60) (w.extractLsb' 118 10),
  fun w => .pkg149 (w.extractLsb' 8 50) (w.extractLsb' 58 60) (w.extractLsb' 118 10),
  fun w => .pkg150 (w.extractLsb' 8 60) (w.extractLsb' 68 30) (w.extractLsb' 98 30),
  fun w => .pkg151 (w.extractLsb' 8 60) (w.extractLsb' 68 30) (w.extractLsb' 98 30),
  fun w => .pkg152 (w.extractLsb' 8 60) (w.extractLsb' 68 40) (w.extractLsb' 108 20),
  fun w => .pkg153 (w.extractLsb' 8 60) (w.extractLsb' 68 40) (w.extractLsb' 108 20),
  fun w => .pkg154 (w.extractLsb' 8 60) (w.extractLsb' 68 50) (w.extractLsb' 118 10),
  fun w => .pkg155 (w.extractLsb' 8 60) (w.extractLsb' 68 50) (w.extractLsb' 118 10),
  fun w => .pkg156 (w.extractLsb' 8 60) (w.extractLsb' 68 60)]

/-- The package rows in order of their Format codes. -/
def packageRows : List (Word → Instr) :=
  packageRows0 ++ packageRows40 ++ packageRows80 ++ packageRows120

/-- A package word by its Format field (R122, R126, R128). A nonzero Zero sub-field is decoded too: the exception it
raises comes after the agreement check (R165), so it is part of the package's meaning. -/
def decodePackage (w : Word) : Except DecodeError Instr :=
  match packageRows[formatField w]? with
  | some row => .ok (row w)
  | none => .error .reservedFormat

/-- A 30-bit instruction by its primary operation code (R133). -/
def decode30 (b : BitVec 30) : Instr :=
  match (b.extractLsb' 0 3).toNat with
  | 0 => .i30Popc0 (b.extractLsb' 3 27)
  | 1 => .i30Popc1 (b.extractLsb' 3 27)
  | 2 => .i30Popc2 (b.extractLsb' 3 27)
  | 3 => .i30Popc3 (b.extractLsb' 3 27)
  | 4 => .i30Popc4 (b.extractLsb' 3 27)
  | 5 => .i30Popc5 (b.extractLsb' 3 27)
  | 6 => .i30Popc6 (b.extractLsb' 3 27)
  | _ => .i30Popc7 (b.extractLsb' 3 27)

/-- A 40-bit instruction by its primary operation code (R133). -/
def decode40 (b : BitVec 40) : Instr :=
  match (b.extractLsb' 0 3).toNat with
  | 0 => .i40Popc0 (b.extractLsb' 3 37)
  | 1 => .i40Popc1 (b.extractLsb' 3 37)
  | 2 => .i40Popc2 (b.extractLsb' 3 37)
  | 3 => .i40Popc3 (b.extractLsb' 3 37)
  | 4 => .i40Popc4 (b.extractLsb' 3 37)
  | 5 => .i40Popc5 (b.extractLsb' 3 37)
  | 6 => .i40Popc6 (b.extractLsb' 3 37)
  | _ => .i40Popc7 (b.extractLsb' 3 37)

/-- A 50-bit instruction by its primary operation code (R133). -/
def decode50 (b : BitVec 50) : Instr :=
  match (b.extractLsb' 0 3).toNat with
  | 0 => .i50Popc0 (b.extractLsb' 3 47)
  | 1 => .i50Popc1 (b.extractLsb' 3 47)
  | 2 => .i50Popc2 (b.extractLsb' 3 47)
  | 3 => .i50Popc3 (b.extractLsb' 3 47)
  | 4 => .i50Popc4 (b.extractLsb' 3 47)
  | 5 => .i50Popc5 (b.extractLsb' 3 47)
  | 6 => .i50Popc6 (b.extractLsb' 3 47)
  | _ => .i50Popc7 (b.extractLsb' 3 47)

/-- A 60-bit instruction by its primary operation code (R133). -/
def decode60 (b : BitVec 60) : Instr :=
  match (b.extractLsb' 0 3).toNat with
  | 0 => .i60Popc0 (b.extractLsb' 3 57)
  | 1 => .i60Popc1 (b.extractLsb' 3 57)
  | 2 => .i60Popc2 (b.extractLsb' 3 57)
  | 3 => .i60Popc3 (b.extractLsb' 3 57)
  | 4 => .i60Popc4 (b.extractLsb' 3 57)
  | 5 => .i60Popc5 (b.extractLsb' 3 57)
  | 6 => .i60Popc6 (b.extractLsb' 3 57)
  | _ => .i60Popc7 (b.extractLsb' 3 57)

/-- An instruction word by its length and primary operation code (R132, R133). -/
def decodeWord : InstrWord → Instr
  | .w30 b => decode30 b
  | .w40 b => decode40 b
  | .w50 b => decode50 b
  | .w60 b => decode60 b

/-- The decoder: total, refusing the reserved formats by name. -/
def decode : Code → Except DecodeError Instr
  | .package w => decodePackage w
  | .instruction w => .ok (decodeWord w)

/-! ### The encoder -/

/-- 128 bits put together from fields. -/
def asWord {n : Nat} (h : n = 128) (v : BitVec n) : Word := v.cast h

/-- The encoding of an instruction: a package word for a format row (R126), an instruction word for a primary-operation-code
row (R133), none for a name-only row, which has no encoding (R139 (c)). -/
def encode : Instr → Option Code
  | .pkg0 t i0 i1 i2 z => some (.package (asWord (n := 20+30+30+30+10+8) rfl (z ++ i2 ++ i1 ++ i0 ++ t ++ 0#8)))
  | .pkg1 t i0 i1 i2 i3L => some (.package (asWord (n := 20+30+30+30+10+8) rfl (i3L ++ i2 ++ i1 ++ i0 ++ t ++ 1#8)))
  | .pkg2 t i0 i1 i2 z => some (.package (asWord (n := 10+40+30+30+10+8) rfl (z ++ i2 ++ i1 ++ i0 ++ t ++ 2#8)))
  | .pkg3 t i0 i1 i2 i3L => some (.package (asWord (n := 10+40+30+30+10+8) rfl (i3L ++ i2 ++ i1 ++ i0 ++ t ++ 3#8)))
  | .pkg4 t i0 i1 i2 => some (.package (asWord (n := 50+30+30+10+8) rfl (i2 ++ i1 ++ i0 ++ t ++ 4#8)))
  | .pkg5 t i0 i1 i2L => some (.package (asWord (n := 50+30+30+10+8) rfl (i2L ++ i1 ++ i0 ++ t ++ 5#8)))
  | .pkg6 t i0 i1 i2 z => some (.package (asWord (n := 10+30+40+30+10+8) rfl (z ++ i2 ++ i1 ++ i0 ++ t ++ 6#8)))
  | .pkg7 t i0 i1 i2 i3L => some (.package (asWord (n := 10+30+40+30+10+8) rfl (i3L ++ i2 ++ i1 ++ i0 ++ t ++ 7#8)))
  | .pkg8 t i0 i1 i2 => some (.package (asWord (n := 40+40+30+10+8) rfl (i2 ++ i1 ++ i0 ++ t ++ 8#8)))
  | .pkg9 t i0 i1 i2L => some (.package (asWord (n := 40+40+30+10+8) rfl (i2L ++ i1 ++ i0 ++ t ++ 9#8)))
  | .pkg10 t i0 i1 i2 => some (.package (asWord (n := 30+50+30+10+8) rfl (i2 ++ i1 ++ i0 ++ t ++ 10#8)))
  | .pkg11 t i0 i1 i2L => some (.package (asWord (n := 30+50+30+10+8) rfl (i2L ++ i1 ++ i0 ++ t ++ 11#8)))
  | .pkg12 t i0 i1 z => some (.package (asWord (n := 20+60+30+10+8) rfl (z ++ i1 ++ i0 ++ t ++ 12#8)))
  | .pkg13 t i0 i1 i2L => some (.package (asWord (n := 20+60+30+10+8) rfl (i2L ++ i1 ++ i0 ++ t ++ 13#8)))
  | .pkg14 t i0 i1 i2 z => some (.package (asWord (n := 10+30+30+40+10+8) rfl (z ++ i2 ++ i1 ++ i0 ++ t ++ 14#8)))
  | .pkg15 t i0 i1 i2 i3L => some (.package (asWord (n := 10+30+30+40+10+8) rfl (i3L ++ i2 ++ i1 ++ i0 ++ t ++ 15#8)))
  | .pkg16 t i0 i1 i2 => some (.package (asWord (n := 40+30+40+10+8) rfl (i2 ++ i1 ++ i0 ++ t ++ 16#8)))
  | .pkg17 t i0 i1 i2L => some (.package (asWord (n := 40+30+40+10+8) rfl (i2L ++ i1 ++ i0 ++ t ++ 17#8)))
  | .pkg18 t i0 i1 i2 => some (.package (asWord (n := 30+40+40+10+8) rfl (i2 ++ i1 ++ i0 ++ t ++ 18#8)))
  | .pkg19 t i0 i1 i2L => some (.package (asWord (n := 30+40+40+10+8) rfl (i2L ++ i1 ++ i0 ++ t ++ 19#8)))
  | .pkg20 t i0 i1 z => some (.package (asWord (n := 20+50+40+10+8) rfl (z ++ i1 ++ i0 ++ t ++ 20#8)))
  | .pkg21 t i0 i1 i2L => some (.package (asWord (n := 20+50+40+10+8) rfl (i2L ++ i1 ++ i0 ++ t ++ 21#8)))
  | .pkg22 t i0 i1 z => some (.package (asWord (n := 10+60+40+10+8) rfl (z ++ i1 ++ i0 ++ t ++ 22#8)))
  | .pkg23 t i0 i1 i2L => some (.package (asWord (n := 10+60+40+10+8) rfl (i2L ++ i1 ++ i0 ++ t ++ 23#8)))
  | .pkg24 t i0 i1 i2 => some (.package (asWord (n := 30+30+50+10+8) rfl (i2 ++ i1 ++ i0 ++ t ++ 24#8)))
  | .pkg25 t i0 i1 i2L => some (.package (asWord (n := 30+30+50+10+8) rfl (i2L ++ i1 ++ i0 ++ t ++ 25#8)))
  | .pkg26 t i0 i1 z => some (.package (asWord (n := 20+40+50+10+8) rfl (z ++ i1 ++ i0 ++ t ++ 26#8)))
  | .pkg27 t i0 i1 i2L => some (.package (asWord (n := 20+40+50+10+8) rfl (i2L ++ i1 ++ i0 ++ t ++ 27#8)))
  | .pkg28 t i0 i1 z => some (.package (asWord (n := 10+50+50+10+8) rfl (z ++ i1 ++ i0 ++ t ++ 28#8)))
  | .pkg29 t i0 i1 i2L => some (.package (asWord (n := 10+50+50+10+8) rfl (i2L ++ i1 ++ i0 ++ t ++ 29#8)))
  | .pkg30 t i0 i1 => some (.package (asWord (n := 60+50+10+8) rfl (i1 ++ i0 ++ t ++ 30#8)))
  | .pkg31 t i0 i1 z => some (.package (asWord (n := 20+30+60+10+8) rfl (z ++ i1 ++ i0 ++ t ++ 31#8)))
  | .pkg32 t i0 i1 i2L => some (.package (asWord (n := 20+30+60+10+8) rfl (i2L ++ i1 ++ i0 ++ t ++ 32#8)))
  | .pkg33 t i0 i1 z => some (.package (asWord (n := 10+40+60+10+8) rfl (z ++ i1 ++ i0 ++ t ++ 33#8)))
  | .pkg34 t i0 i1 i2L => some (.package (asWord (n := 10+40+60+10+8) rfl (i2L ++ i1 ++ i0 ++ t ++ 34#8)))
  | .pkg35 t i0 i1 => some (.package (asWord (n := 50+60+10+8) rfl (i1 ++ i0 ++ t ++ 35#8)))
  | .pkg36 t i0 i1L => some (.package (asWord (n := 50+60+10+8) rfl (i1L ++ i0 ++ t ++ 36#8)))
  | .pkg37 t i0 i1 i2 z => some (.package (asWord (n := 10+30+30+30+20+8) rfl (z ++ i2 ++ i1 ++ i0 ++ t ++ 37#8)))
  | .pkg38 t i0 i1 i2 i3L => some (.package (asWord (n := 10+30+30+30+20+8) rfl (i3L ++ i2 ++ i1 ++ i0 ++ t ++ 38#8)))
  | .pkg39 t i0 i1 i2 => some (.package (asWord (n := 40+30+30+20+8) rfl (i2 ++ i1 ++ i0 ++ t ++ 39#8)))
  | .pkg40 t i0 i1 i2L => some (.package (asWord (n := 40+30+30+20+8) rfl (i2L ++ i1 ++ i0 ++ t ++ 40#8)))
  | .pkg41 t i0 i1 i2 => some (.package (asWord (n := 30+40+30+20+8) rfl (i2 ++ i1 ++ i0 ++ t ++ 41#8)))
  | .pkg42 t i0 i1 i2L => some (.package (asWord (n := 30+40+30+20+8) rfl (i2L ++ i1 ++ i0 ++ t ++ 42#8)))
  | .pkg43 t i0 i1 z => some (.package (asWord (n := 20+50+30+20+8) rfl (z ++ i1 ++ i0 ++ t ++ 43#8)))
  | .pkg44 t i0 i1 i2L => some (.package (asWord (n := 20+50+30+20+8) rfl (i2L ++ i1 ++ i0 ++ t ++ 44#8)))
  | .pkg45 t i0 i1 z => some (.package (asWord (n := 10+60+30+20+8) rfl (z ++ i1 ++ i0 ++ t ++ 45#8)))
  | .pkg46 t i0 i1 i2L => some (.package (asWord (n := 10+60+30+20+8) rfl (i2L ++ i1 ++ i0 ++ t ++ 46#8)))
  | .pkg47 t i0 i1 i2 => some (.package (asWord (n := 30+30+40+20+8) rfl (i2 ++ i1 ++ i0 ++ t ++ 47#8)))
  | .pkg48 t i0 i1 i2L => some (.package (asWord (n := 30+30+40+20+8) rfl (i2L ++ i1 ++ i0 ++ t ++ 48#8)))
  | .pkg49 t i0 i1 z => some (.package (asWord (n := 20+40+40+20+8) rfl (z ++ i1 ++ i0 ++ t ++ 49#8)))
  | .pkg50 t i0 i1 i2L => some (.package (asWord (n := 20+40+40+20+8) rfl (i2L ++ i1 ++ i0 ++ t ++ 50#8)))
  | .pkg51 t i0 i1 z => some (.package (asWord (n := 10+50+40+20+8) rfl (z ++ i1 ++ i0 ++ t ++ 51#8)))
  | .pkg52 t i0 i1 i2L => some (.package (asWord (n := 10+50+40+20+8) rfl (i2L ++ i1 ++ i0 ++ t ++ 52#8)))
  | .pkg53 t i0 i1 => some (.package (asWord (n := 60+40+20+8) rfl (i1 ++ i0 ++ t ++ 53#8)))
  | .pkg54 t i0 i1 z => some (.package (asWord (n := 20+30+50+20+8) rfl (z ++ i1 ++ i0 ++ t ++ 54#8)))
  | .pkg55 t i0 i1 i2L => some (.package (asWord (n := 20+30+50+20+8) rfl (i2L ++ i1 ++ i0 ++ t ++ 55#8)))
  | .pkg56 t i0 i1 z => some (.package (asWord (n := 10+40+50+20+8) rfl (z ++ i1 ++ i0 ++ t ++ 56#8)))
  | .pkg57 t i0 i1 i2L => some (.package (asWord (n := 10+40+50+20+8) rfl (i2L ++ i1 ++ i0 ++ t ++ 57#8)))
  | .pkg58 t i0 i1 => some (.package (asWord (n := 50+50+20+8) rfl (i1 ++ i0 ++ t ++ 58#8)))
  | .pkg59 t i0 i1L => some (.package (asWord (n := 50+50+20+8) rfl (i1L ++ i0 ++ t ++ 59#8)))
  | .pkg60 t i0 i1 z => some (.package (asWord (n := 10+30+60+20+8) rfl (z ++ i1 ++ i0 ++ t ++ 60#8)))
  | .pkg61 t i0 i1 i2L => some (.package (asWord (n := 10+30+60+20+8) rfl (i2L ++ i1 ++ i0 ++ t ++ 61#8)))
  | .pkg62 t i0 i1 => some (.package (asWord (n := 40+60+20+8) rfl (i1 ++ i0 ++ t ++ 62#8)))
  | .pkg63 t i0 i1L => some (.package (asWord (n := 40+60+20+8) rfl (i1L ++ i0 ++ t ++ 63#8)))
  | .pkg64 t i0 i1 i2 => some (.package (asWord (n := 30+30+30+30+8) rfl (i2 ++ i1 ++ i0 ++ t ++ 64#8)))
  | .pkg65 t i0 i1 i2L => some (.package (asWord (n := 30+30+30+30+8) rfl (i2L ++ i1 ++ i0 ++ t ++ 65#8)))
  | .pkg66 i0 i1 i2 i3 => some (.package (asWord (n := 30+30+30+30+8) rfl (i3 ++ i2 ++ i1 ++ i0 ++ 66#8)))
  | .pkg67 i0 i1 i2 i3L => some (.package (asWord (n := 30+30+30+30+8) rfl (i3L ++ i2 ++ i1 ++ i0 ++ 67#8)))
  | .pkg68 t i0 i1 z => some (.package (asWord (n := 20+40+30+30+8) rfl (z ++ i1 ++ i0 ++ t ++ 68#8)))
  | .pkg69 t i0 i1 i2L => some (.package (asWord (n := 20+40+30+30+8) rfl (i2L ++ i1 ++ i0 ++ t ++ 69#8)))
  | .pkg70 i0 i1 i2 z => some (.package (asWord (n := 20+40+30+30+8) rfl (z ++ i2 ++ i1 ++ i0 ++ 70#8)))
  | .pkg71 i0 i1 i2 i3L => some (.package (asWord (n := 20+40+30+30+8) rfl (i3L ++ i2 ++ i1 ++ i0 ++ 71#8)))
  | .pkg72 t i0 i1 z => some (.package (asWord (n := 10+50+30+30+8) rfl (z ++ i1 ++ i0 ++ t ++ 72#8)))
  | .pkg73 t i0 i1 i2L => some (.package (asWord (n := 10+50+30+30+8) rfl (i2L ++ i1 ++ i0 ++ t ++ 73#8)))
  | .pkg74 i0 i1 i2 z => some (.package (asWord (n := 10+50+30+30+8) rfl (z ++ i2 ++ i1 ++ i0 ++ 74#8)))
  | .pkg75 i0 i1 i2 i3L => some (.package (asWord (n := 10+50+30+30+8) rfl (i3L ++ i2 ++ i1 ++ i0 ++ 75#8)))
  | .pkg76 t i0 i1 => some (.package (asWord (n := 60+30+30+8) rfl (i1 ++ i0 ++ t ++ 76#8)))
  | .pkg77 i0 i1 i2 => some (.package (asWord (n := 60+30+30+8) rfl (i2 ++ i1 ++ i0 ++ 77#8)))
  | .pkg78 t i0 i1 z => some (.package (asWord (n := 20+30+40+30+8) rfl (z ++ i1 ++ i0 ++ t ++ 78#8)))
  | .pkg79 t i0 i1 i2L => some (.package (asWord (n := 20+30+40+30+8) rfl (i2L ++ i1 ++ i0 ++ t ++ 79#8)))
  | .pkg80 i0 i1 i2 z => some (.package (asWord (n := 20+30+40+30+8) rfl (z ++ i2 ++ i1 ++ i0 ++ 80#8)))
  | .pkg81 i0 i1 i2 i3L => some (.package (asWord (n := 20+30+40+30+8) rfl (i3L ++ i2 ++ i1 ++ i0 ++ 81#8)))
  | .pkg82 t i0 i1 z => some (.package (asWord (n := 10+40+40+30+8) rfl (z ++ i1 ++ i0 ++ t ++ 82#8)))
  | .pkg83 t i0 i1 i2L => some (.package (asWord (n := 10+40+40+30+8) rfl (i2L ++ i1 ++ i0 ++ t ++ 83#8)))
  | .pkg84 i0 i1 i2 z => some (.package (asWord (n := 10+40+40+30+8) rfl (z ++ i2 ++ i1 ++ i0 ++ 84#8)))
  | .pkg85 i0 i1 i2 i3L => some (.package (asWord (n := 10+40+40+30+8) rfl (i3L ++ i2 ++ i1 ++ i0 ++ 85#8)))
  | .pkg86 t i0 i1 => some (.package (asWord (n := 50+40+30+8) rfl (i1 ++ i0 ++ t ++ 86#8)))
  | .pkg87 t i0 i1L => some (.package (asWord (n := 50+40+30+8) rfl (i1L ++ i0 ++ t ++ 87#8)))
  | .pkg88 i0 i1 i2 => some (.package (asWord (n := 50+40+30+8) rfl (i2 ++ i1 ++ i0 ++ 88#8)))
  | .pkg89 i0 i1 i2L => some (.package (asWord (n := 50+40+30+8) rfl (i2L ++ i1 ++ i0 ++ 89#8)))
  | .pkg90 t i0 i1 z => some (.package (asWord (n := 10+30+50+30+8) rfl (z ++ i1 ++ i0 ++ t ++ 90#8)))
  | .pkg91 t i0 i1 i2L => some (.package (asWord (n := 10+30+50+30+8) rfl (i2L ++ i1 ++ i0 ++ t ++ 91#8)))
  | .pkg92 i0 i1 i2 z => some (.package (asWord (n := 10+30+50+30+8) rfl (z ++ i2 ++ i1 ++ i0 ++ 92#8)))
  | .pkg93 i0 i1 i2 i3L => some (.package (asWord (n := 10+30+50+30+8) rfl (i3L ++ i2 ++ i1 ++ i0 ++ 93#8)))
  | .pkg94 t i0 i1 => some (.package (asWord (n := 40+50+30+8) rfl (i1 ++ i0 ++ t ++ 94#8)))
  | .pkg95 t i0 i1L => some (.package (asWord (n := 40+50+30+8) rfl (i1L ++ i0 ++ t ++ 95#8)))
  | .pkg96 i0 i1 i2 => some (.package (asWord (n := 40+50+30+8) rfl (i2 ++ i1 ++ i0 ++ 96#8)))
  | .pkg97 i0 i1 i2L => some (.package (asWord (n := 40+50+30+8) rfl (i2L ++ i1 ++ i0 ++ 97#8)))
  | .pkg98 t i0 i1 => some (.package (asWord (n := 30+60+30+8) rfl (i1 ++ i0 ++ t ++ 98#8)))
  | .pkg99 t i0 i1L => some (.package (asWord (n := 30+60+30+8) rfl (i1L ++ i0 ++ t ++ 99#8)))
  | .pkg100 i0 i1 i2 => some (.package (asWord (n := 30+60+30+8) rfl (i2 ++ i1 ++ i0 ++ 100#8)))
  | .pkg101 i0 i1 i2L => some (.package (asWord (n := 30+60+30+8) rfl (i2L ++ i1 ++ i0 ++ 101#8)))
  | .pkg102 t i0 i1 z => some (.package (asWord (n := 20+30+30+40+8) rfl (z ++ i1 ++ i0 ++ t ++ 102#8)))
  | .pkg103 t i0 i1 i2L => some (.package (asWord (n := 20+30+30+40+8) rfl (i2L ++ i1 ++ i0 ++ t ++ 103#8)))
  | .pkg104 i0 i1 i2 z => some (.package (asWord (n := 20+30+30+40+8) rfl (z ++ i2 ++ i1 ++ i0 ++ 104#8)))
  | .pkg105 i0 i1 i2 i3L => some (.package (asWord (n := 20+30+30+40+8) rfl (i3L ++ i2 ++ i1 ++ i0 ++ 105#8)))
  | .pkg106 t i0 i1 z => some (.package (asWord (n := 10+40+30+40+8) rfl (z ++ i1 ++ i0 ++ t ++ 106#8)))
  | .pkg107 t i0 i1 i2L => some (.package (asWord (n := 10+40+30+40+8) rfl (i2L ++ i1 ++ i0 ++ t ++ 107#8)))
  | .pkg108 i0 i1 i2 z => some (.package (asWord (n := 10+40+30+40+8) rfl (z ++ i2 ++ i1 ++ i0 ++ 108#8)))
  | .pkg109 i0 i1 i2 i3L => some (.package (asWord (n := 10+40+30+40+8) rfl (i3L ++ i2 ++ i1 ++ i0 ++ 109#8)))
  | .pkg110 t i0 i1 => some (.package (asWord (n := 50+30+40+8) rfl (i1 ++ i0 ++ t ++ 110#8)))
  | .pkg111 t i0 i1L => some (.package (asWord (n := 50+30+40+8) rfl (i1L ++ i0 ++ t ++ 111#8)))
  | .pkg112 i0 i1 i2 => some (.package (asWord (n := 50+30+40+8) rfl (i2 ++ i1 ++ i0 ++ 112#8)))
  | .pkg113 i0 i1 i2L => some (.package (asWord (n := 50+30+40+8) rfl (i2L ++ i1 ++ i0 ++ 113#8)))
  | .pkg114 t i0 i1 z => some (.package (asWord (n := 10+30+40+40+8) rfl (z ++ i1 ++ i0 ++ t ++ 114#8)))
  | .pkg115 t i0 i1 i2L => some (.package (asWord (n := 10+30+40+40+8) rfl (i2L ++ i1 ++ i0 ++ t ++ 115#8)))
  | .pkg116 i0 i1 i2 z => some (.package (asWord (n := 10+30+40+40+8) rfl (z ++ i2 ++ i1 ++ i0 ++ 116#8)))
  | .pkg117 i0 i1 i2 i3L => some (.package (asWord (n := 10+30+40+40+8) rfl (i3L ++ i2 ++ i1 ++ i0 ++ 117#8)))
  | .pkg118 t i0 i1 => some (.package (asWord (n := 40+40+40+8) rfl (i1 ++ i0 ++ t ++ 118#8)))
  | .pkg119 t i0 i1L => some (.package (asWord (n := 40+40+40+8) rfl (i1L ++ i0 ++ t ++ 119#8)))
  | .pkg120 i0 i1 i2 => some (.package (asWord (n := 40+40+40+8) rfl (i2 ++ i1 ++ i0 ++ 120#8)))
  | .pkg121 i0 i1 i2L => some (.package (asWord (n := 40+40+40+8) rfl (i2L ++ i1 ++ i0 ++ 121#8)))
  | .pkg122 t i0 i1 => some (.package (asWord (n := 30+50+40+8) rfl (i1 ++ i0 ++ t ++ 122#8)))
  | .pkg123 t i0 i1L => some (.package (asWord (n := 30+50+40+8) rfl (i1L ++ i0 ++ t ++ 123#8)))
  | .pkg124 i0 i1 i2 => some (.package (asWord (n := 30+50+40+8) rfl (i2 ++ i1 ++ i0 ++ 124#8)))
  | .pkg125 i0 i1 i2L => some (.package (asWord (n := 30+50+40+8) rfl (i2L ++ i1 ++ i0 ++ 125#8)))
  | .pkg126 t i0 z => some (.package (asWord (n := 20+60+40+8) rfl (z ++ i0 ++ t ++ 126#8)))
  | .pkg127 t i0 i1L => some (.package (asWord (n := 20+60+40+8) rfl (i1L ++ i0 ++ t ++ 127#8)))
  | .pkg128 i0 i1 z => some (.package (asWord (n := 20+60+40+8) rfl (z ++ i1 ++ i0 ++ 128#8)))
  | .pkg129 i0 i1 i2L => some (.package (asWord (n := 20+60+40+8) rfl (i2L ++ i1 ++ i0 ++ 129#8)))
  | .pkg130 t i0 i1 z => some (.package (asWord (n := 10+30+30+50+8) rfl (z ++ i1 ++ i0 ++ t ++ 130#8)))
  | .pkg131 t i0 i1 i2L => some (.package (asWord (n := 10+30+30+50+8) rfl (i2L ++ i1 ++ i0 ++ t ++ 131#8)))
  | .pkg132 i0 i1 i2 z => some (.package (asWord (n := 10+30+30+50+8) rfl (z ++ i2 ++ i1 ++ i0 ++ 132#8)))
  | .pkg133 i0 i1 i2 i3L => some (.package (asWord (n := 10+30+30+50+8) rfl (i3L ++ i2 ++ i1 ++ i0 ++ 133#8)))
  | .pkg134 t i0 i1 => some (.package (asWord (n := 40+30+50+8) rfl (i1 ++ i0 ++ t ++ 134#8)))
  | .pkg135 t i0 i1L => some (.package (asWord (n := 40+30+50+8) rfl (i1L ++ i0 ++ t ++ 135#8)))
  | .pkg136 i0 i1 i2 => some (.package (asWord (n := 40+30+50+8) rfl (i2 ++ i1 ++ i0 ++ 136#8)))
  | .pkg137 i0 i1 i2L => some (.package (asWord (n := 40+30+50+8) rfl (i2L ++ i1 ++ i0 ++ 137#8)))
  | .pkg138 t i0 i1 => some (.package (asWord (n := 30+40+50+8) rfl (i1 ++ i0 ++ t ++ 138#8)))
  | .pkg139 t i0 i1L => some (.package (asWord (n := 30+40+50+8) rfl (i1L ++ i0 ++ t ++ 139#8)))
  | .pkg140 i0 i1 i2 => some (.package (asWord (n := 30+40+50+8) rfl (i2 ++ i1 ++ i0 ++ 140#8)))
  | .pkg141 i0 i1 i2L => some (.package (asWord (n := 30+40+50+8) rfl (i2L ++ i1 ++ i0 ++ 141#8)))
  | .pkg142 t i0 z => some (.package (asWord (n := 20+50+50+8) rfl (z ++ i0 ++ t ++ 142#8)))
  | .pkg143 t i0 i1L => some (.package (asWord (n := 20+50+50+8) rfl (i1L ++ i0 ++ t ++ 143#8)))
  | .pkg144 i0 i1 z => some (.package (asWord (n := 20+50+50+8) rfl (z ++ i1 ++ i0 ++ 144#8)))
  | .pkg145 i0 i1 i2L => some (.package (asWord (n := 20+50+50+8) rfl (i2L ++ i1 ++ i0 ++ 145#8)))
  | .pkg146 t i0 z => some (.package (asWord (n := 10+60+50+8) rfl (z ++ i0 ++ t ++ 146#8)))
  | .pkg147 t i0 i1L => some (.package (asWord (n := 10+60+50+8) rfl (i1L ++ i0 ++ t ++ 147#8)))
  | .pkg148 i0 i1 z => some (.package (asWord (n := 10+60+50+8) rfl (z ++ i1 ++ i0 ++ 148#8)))
  | .pkg149 i0 i1 i2L => some (.package (asWord (n := 10+60+50+8) rfl (i2L ++ i1 ++ i0 ++ 149#8)))
  | .pkg150 i0 i1 i2 => some (.package (asWord (n := 30+30+60+8) rfl (i2 ++ i1 ++ i0 ++ 150#8)))
  | .pkg151 i0 i1 i2L => some (.package (asWord (n := 30+30+60+8) rfl (i2L ++ i1 ++ i0 ++ 151#8)))
  | .pkg152 i0 i1 z => some (.package (asWord (n := 20+40+60+8) rfl (z ++ i1 ++ i0 ++ 152#8)))
  | .pkg153 i0 i1 i2L => some (.package (asWord (n := 20+40+60+8) rfl (i2L ++ i1 ++ i0 ++ 153#8)))
  | .pkg154 i0 i1 z => some (.package (asWord (n := 10+50+60+8) rfl (z ++ i1 ++ i0 ++ 154#8)))
  | .pkg155 i0 i1 i2L => some (.package (asWord (n := 10+50+60+8) rfl (i2L ++ i1 ++ i0 ++ 155#8)))
  | .pkg156 i0 i1 => some (.package (asWord (n := 60+60+8) rfl (i1 ++ i0 ++ 156#8)))
  | .i30Popc0 rest => some (.instruction (.w30 (rest ++ 0#3)))
  | .i30Popc1 rest => some (.instruction (.w30 (rest ++ 1#3)))
  | .i30Popc2 rest => some (.instruction (.w30 (rest ++ 2#3)))
  | .i30Popc3 rest => some (.instruction (.w30 (rest ++ 3#3)))
  | .i30Popc4 rest => some (.instruction (.w30 (rest ++ 4#3)))
  | .i30Popc5 rest => some (.instruction (.w30 (rest ++ 5#3)))
  | .i30Popc6 rest => some (.instruction (.w30 (rest ++ 6#3)))
  | .i30Popc7 rest => some (.instruction (.w30 (rest ++ 7#3)))
  | .i40Popc0 rest => some (.instruction (.w40 (rest ++ 0#3)))
  | .i40Popc1 rest => some (.instruction (.w40 (rest ++ 1#3)))
  | .i40Popc2 rest => some (.instruction (.w40 (rest ++ 2#3)))
  | .i40Popc3 rest => some (.instruction (.w40 (rest ++ 3#3)))
  | .i40Popc4 rest => some (.instruction (.w40 (rest ++ 4#3)))
  | .i40Popc5 rest => some (.instruction (.w40 (rest ++ 5#3)))
  | .i40Popc6 rest => some (.instruction (.w40 (rest ++ 6#3)))
  | .i40Popc7 rest => some (.instruction (.w40 (rest ++ 7#3)))
  | .i50Popc0 rest => some (.instruction (.w50 (rest ++ 0#3)))
  | .i50Popc1 rest => some (.instruction (.w50 (rest ++ 1#3)))
  | .i50Popc2 rest => some (.instruction (.w50 (rest ++ 2#3)))
  | .i50Popc3 rest => some (.instruction (.w50 (rest ++ 3#3)))
  | .i50Popc4 rest => some (.instruction (.w50 (rest ++ 4#3)))
  | .i50Popc5 rest => some (.instruction (.w50 (rest ++ 5#3)))
  | .i50Popc6 rest => some (.instruction (.w50 (rest ++ 6#3)))
  | .i50Popc7 rest => some (.instruction (.w50 (rest ++ 7#3)))
  | .i60Popc0 rest => some (.instruction (.w60 (rest ++ 0#3)))
  | .i60Popc1 rest => some (.instruction (.w60 (rest ++ 1#3)))
  | .i60Popc2 rest => some (.instruction (.w60 (rest ++ 2#3)))
  | .i60Popc3 rest => some (.instruction (.w60 (rest ++ 3#3)))
  | .i60Popc4 rest => some (.instruction (.w60 (rest ++ 4#3)))
  | .i60Popc5 rest => some (.instruction (.w60 (rest ++ 5#3)))
  | .i60Popc6 rest => some (.instruction (.w60 (rest ++ 6#3)))
  | .i60Popc7 rest => some (.instruction (.w60 (rest ++ 7#3)))
  | .aviObtain _ => none
  | .aeQuery _ => none
  | .integerCarry _ => none
  | .vector _ => none
  | .elementExtract _ => none
  | .elementDeposit _ => none
  | .loadWordAddressed _ => none
  | .storeWordAddressed _ => none
  | .loadOctetAddressed _ => none
  | .storeOctetAddressed _ => none
  | .memoryBarrier _ => none
  | .storeAtomic _ => none
  | .controlFlow _ => none
  | .internalInterrupt _ => none
  | .sendInterrupt _ => none
  | .null _ => none
  | .privilegedState _ => none

/-- The rows that are encoded: packages and instruction words, not the name-only rows (R139). -/
def Instr.encodable (i : Instr) : Bool := (encode i).isSome

/-- What `decodeTableWord` and `withFetchWord` take `nbits` bits to be: 32, 40, 56 and 64 bits (whole octets) hold a 30-,
40-, 50- and 60-bit instruction; everything else is a package word, since packages are what the machine fetches (log 6). -/
def tableCode (nbits w : Nat) : Code :=
  if 24 < nbits ∧ nbits ≤ 32 then .instruction (.w30 (BitVec.ofNat 30 w))
  else if 32 < nbits ∧ nbits ≤ 40 then .instruction (.w40 (BitVec.ofNat 40 w))
  else if 40 < nbits ∧ nbits ≤ 56 then .instruction (.w50 (BitVec.ofNat 50 w))
  else if 56 < nbits ∧ nbits ≤ 64 then .instruction (.w60 (BitVec.ofNat 60 w))
  else .package (BitVec.ofNat 128 w)

/-- The instruction the decoder reads from the bits of a row of the opcode table. -/
def decodeTableWord (nbits w : Nat) : Option Instr :=
  match decode (tableCode nbits w) with
  | .ok i => some i
  | .error _ => none

end Sys2Proof
end

