-- ==== Sys2Proof/Machine/Memory.lean ====
section
/-! DEFINITION. The primary memory: octets in a canonical list, little-endian units, and the primitives of R90 and R91. -/

namespace Sys2Proof.Machine

open Sys2Proof

/-! ### Octets -/

namespace Memory

/-- What an octet that nothing has written reads as. The spec calls it unpredictable (R87); DESIGN CHOICE, unsafe: zero
(log 5). -/
def unwritten : Octet := 0#8

/-- One more octet location than there are (R65): 2**132. -/
def locations : Nat := 2 ^ 132

/-- The octet at a location. -/
def read : List Host.Cell → Nat → Octet
  | [], _ => unwritten
  | (k, v) :: rest, a => if k = a then v else read rest a

/-- Puts an octet that differs from `unwritten` in its place. -/
def insert : List Host.Cell → Nat → Octet → List Host.Cell
  | [], a, v => [(a, v)]
  | (k, w) :: rest, a, v =>
    if k < a then (k, w) :: insert rest a v
    else if k = a then (a, v) :: rest
    else (a, v) :: (k, w) :: rest

/-- Writes one octet; writing what an unlisted location reads as removes the entry. -/
def write (m : List Host.Cell) (a : Nat) (v : Octet) : List Host.Cell :=
  if v = unwritten then m.filter (fun c => c.1 != a) else insert m a v

/-- Locations rise strictly from `lo`, exist, and hold what an unlisted one would not read as. -/
def wfFrom : Nat → List Host.Cell → Bool
  | _, [] => true
  | lo, (k, v) :: rest => decide (lo ≤ k) && decide (k < locations) && (v != unwritten) && wfFrom (k + 1) rest

/-- The canonical form: equal memories are equal lists. -/
def wf (m : List Host.Cell) : Bool := wfFrom 0 m

/-- The unit of n octets at location a, the octet at a least significant (R68). -/
def readLE (m : List Host.Cell) (a : Nat) : Nat → Nat
  | 0 => 0
  | n + 1 => (read m a).toNat + 256 * readLE m (a + 1) n

/-- Writes a unit of n octets at location a, little-endian (R68). -/
def writeLE (m : List Host.Cell) (a : Nat) : Nat → Nat → List Host.Cell
  | 0, _ => m
  | n + 1, v => write (writeLE m (a + 1) n (v / 256)) a (BitVec.ofNat 8 v)

/-- The word at word location w: octet locations 16 w to 16 w + 15 (R66). -/
def readWord (m : List Host.Cell) (w : Nat) : Word := BitVec.ofNat 128 (readLE m (16 * w) 16)

/-- Writes the word at word location w. -/
def writeWord (m : List Host.Cell) (w : Nat) (v : Word) : List Host.Cell := writeLE m (16 * w) 16 v.toNat

end Memory

/-! ### Addresses -/

/-- `trunc(a)`: the address with which the memory is referenced (R78). -/
def trunc (c : Impl) (a : Word) : Word := BitVec.ofNat 128 (a.toNat % 2 ^ c.nMem)

/-- `aligned(oa, n)` (R70). -/
def aligned (a n : Nat) : Bool := a % n == 0

/-- Conversion of an octet address to a word address and back (R67, R218). -/
def octetToWordAddress (oa : Word) : Word := oa >>> 4

/-- `oa = (wa * 16) mod 2**128` (R67, R218). -/
def wordToOctetAddress (wa : Word) : Word := wa <<< 4

namespace State

/-- The word location is backed; word 0 always is (R81, R83). -/
def isBacked (s : State) (w : Nat) : Bool :=
  w == 0 ||
  match s.backing.find? (fun r => decide (r.first ≤ w) && decide (w ≤ r.last)) with
  | some r => r.backed
  | none => true

/-- The word location a word address names (R64, R78). -/
def wordLocation (s : State) (wa : Word) : Nat := (trunc s.impl wa).toNat

/-- The octet location an octet address names (R65, R78). -/
def octetLocation (s : State) (oa : Word) : Nat := (trunc s.impl oa).toNat

/-- The octet at a location: the model's read of one byte. -/
def octetAt (s : State) (a : Nat) : Octet := Memory.read s.mem a

/-- The superseded contents after a write to word location w: unless the instruction stream is coherent, a fetch may still
see what the write replaces (R107, D20). -/
def superseded (s : State) (w : Nat) : List (Nat × Word) :=
  if s.impl.ifetchCoherent then s.stale else (w, Memory.readWord s.mem w) :: s.stale

/-- Writes n octets at octet location a if their word location is backed, else nothing (R84, R90, R91). No event is noted:
the writer may be another agent. No additional effect where it is unbacked (log 48). -/
def put (s : State) (a n : Nat) (v : Nat) : State :=
  if s.isBacked (a / 16) then (s.setStale (s.superseded (a / 16))).setMem (Memory.writeLE s.mem a n v) else s

/-- A write of this processor: `put`, and the write event if a location was written (R90, R106). An access to an unbacked location has no
additional effect: DESIGN CHOICE, the default of the parameter that R85, R260 and U6 leave to the implementation (log 48). -/
def store (s : State) (a n : Nat) (v : Nat) : State :=
  if s.isBacked (a / 16) then (s.put a n v).note (.write (a / 16)) else s

/-- `MemReadW(wa)` of R90, a read event of this processor; unpredictable where the location is unbacked (R84), and nothing
besides (log 48). It reads what memory
holds now: this processor's accesses take effect in program order, and those of others between its steps, so that all of them form
one sequence (sequential consistency). DESIGN CHOICE, which D21 leaves to the model (R367; log 23). -/
def memReadW (s : State) (wa : Word) : Word × State :=
  let w := s.wordLocation wa
  if s.isBacked w then (Memory.readWord s.mem w, s.note (.read w))
  else (Config.freeWord s.free, (s.note (.read w)).drawn)

/-- `MemWriteW(wa, v)` of R90. -/
def memWriteW (s : State) (wa v : Word) : State := s.store (16 * s.wordLocation wa) 16 v.toNat

/-- `MemRead(oa, n)` of R91: none where the address is unaligned (R71), else the 8 n-bit value in the low bits of a word. -/
def memRead (s : State) (oa : Word) (size : UnitSize) : Option (Word × State) :=
  let a := s.octetLocation oa
  let n := size.octets
  if aligned a n then
    if s.isBacked (a / 16) then some (BitVec.ofNat 128 (Memory.readLE s.mem a n), s.note (.read (a / 16)))
    else some (BitVec.ofNat 128 ((Config.freeWord s.free).toNat % 2 ^ (8 * n)), (s.note (.read (a / 16))).drawn)
  else none

/-- `MemWrite(oa, n, v)` of R91: none where the address is unaligned (R71), else the low 8 n bits of v are written. -/
def memWrite (s : State) (oa : Word) (size : UnitSize) (v : Word) : Option State :=
  let a := s.octetLocation oa
  if aligned a size.octets then some (s.store a size.octets v.toNat) else none

/-- The contents of word location w that a fetch may see besides the memory's: those superseded since coherence was last
enforced, where the instruction stream is not coherent (R107). -/
def oldContents (s : State) (w : Nat) : List Word :=
  if s.impl.ifetchCoherent then [] else s.stale.filterMap (fun p => if p.1 = w then some p.2 else none)

/-- `fetch(A)` of R164: a package word by word address. Unpredictable where unbacked (R84), and nothing besides (log 48); where older contents may still
be seen, one of them or the new content, chosen afresh (D20). -/
def fetch (s : State) (a : Word) : Word × State :=
  let w := s.wordLocation a
  if s.isBacked w then
    match s.oldContents w with
    | [] => (Memory.readWord s.mem w, s)
    | old =>
      ((Memory.readWord s.mem w :: old).getD (Config.freeChoice s.free % (old.length + 1)) (Memory.readWord s.mem w),
        s.drawn)
  else (Config.freeWord s.free, s.drawn)

end State

end Sys2Proof.Machine
end

