-- ==== Sys2Proof/Machine/Ops.lean ====
section
/-! DEFINITION. The shared operations: registers, per-level state, sequencing, taking exceptions and interrupts and
returning from them, and how an instruction's outcome ends a step. -/

namespace Sys2Proof.Machine

open Sys2Proof

/-! ### Registers and semi-registers (10_state.md) -/

/-- One half of a 128-bit register: 0 the low-order half, otherwise the high-order half (R25, R32). -/
def halfOf (w : Word) (half : Nat) : SemiWord := if half = 0 then w.extractLsb' 0 64 else w.extractLsb' 64 64

/-- A 128-bit register with one half replaced, the other unchanged (R25, R32). -/
def withHalf (w : Word) (half : Nat) (v : SemiWord) : Word :=
  if half = 0 then w.extractLsb' 64 64 ++ v else v ++ w.extractLsb' 0 64

/-- The number of the 128-bit register a semi-register is half of: the quotient by two (R25, R32). -/
def fullOf (i : Fin 128) : Fin 64 := ⟨i.val / 2, by omega⟩

namespace State

/-- SGPR[i] (R25). -/
def sgpr (s : State) (i : Fin 128) : SemiWord := halfOf s.gpr[fullOf i] (i.val % 2)

/-- SRNR[i] (R32). -/
def srnr (s : State) (i : Fin 128) : SemiWord := halfOf s.rnr[fullOf i] (i.val % 2)

/-- SGPR[i] <- v (R25). -/
def setSgpr (s : State) (i : Fin 128) (v : SemiWord) : State :=
  s.setGpr (fullOf i) (withHalf s.gpr[fullOf i] (i.val % 2) v)

/-- SRNR[i] <- v (R32). -/
def setSrnr (s : State) (i : Fin 128) (v : SemiWord) : State :=
  s.setRnr (fullOf i) (withHalf s.rnr[fullOf i] (i.val % 2) v)

/-- The contents of a register; those of a semi-register stand in the low-order half of a word. -/
def readReg (s : State) : Reg → Word
  | .gpr g => s.gpr[g]
  | .sgpr i => (s.sgpr i).setWidth 128
  | .rnr r => s.rnr[r]
  | .srnr i => (s.srnr i).setWidth 128

/-- Writes a register; a semi-register takes the low-order half of the word. No CR is written (R29 last paragraph, D14). -/
def writeReg (s : State) (r : Reg) (v : Word) : State :=
  match r with
  | .gpr g => s.setGpr g v
  | .sgpr i => s.setSgpr i (v.setWidth 64)
  | .rnr r => s.setRnr r v
  | .srnr i => s.setSrnr i (v.setWidth 64)

end State

/-! ### State that exists for each privilege level (R40 to R43) -/

namespace LevelMap

/-- The entry of a level, `d` where none is listed. -/
def get {α : Type} (m : LevelMap α) (p : Nat) (d : α) : α :=
  match m with
  | [] => d
  | (k, v) :: rest => if k = p then v else get rest p d

/-- Replaces or adds the entry of a level. -/
def put {α : Type} (m : LevelMap α) (p : Nat) (v : α) : LevelMap α :=
  match m with
  | [] => [(p, v)]
  | (k, w) :: rest =>
    if k < p then (k, w) :: put rest p v
    else if k = p then (p, v) :: rest
    else (p, v) :: (k, w) :: rest

end LevelMap

namespace State

/-- EHA[p] (R40). -/
def ehaAt (s : State) (p : Nat) : Word := LevelMap.get s.eha p 0#128
/-- IHA[p] (R41). -/
def ihaAt (s : State) (p : Nat) : Word := LevelMap.get s.iha p 0#128
/-- ESAVE[p] (R42). -/
def esaveAt (s : State) (p : Nat) : ExcSave := LevelMap.get s.esave p {}
/-- ISAVE[p] (R43). -/
def isaveAt (s : State) (p : Nat) : ResumePoint := LevelMap.get s.isave p {}
/-- EHA[p] <- a, all 128 bits of it: DESIGN CHOICE, since with fewer address bits implemented whether the register keeps those above
N_MEM is not in source (R40, N7; log 46); a trap entry reduces it (R78). -/
def setEha (s : State) (p : Nat) (a : Word) : State := s.setEhaMap (LevelMap.put s.eha p a)
/-- IHA[p] <- a, all 128 bits of it: DESIGN CHOICE as for EHA (R41, N7; log 46). -/
def setIha (s : State) (p : Nat) (a : Word) : State := s.setIhaMap (LevelMap.put s.iha p a)
/-- ESAVE[p] <- r. -/
def setEsave (s : State) (p : Nat) (r : ExcSave) : State := s.setEsaveMap (LevelMap.put s.esave p r)
/-- ISAVE[p] <- r. -/
def setIsave (s : State) (p : Nat) (r : ResumePoint) : State := s.setIsaveMap (LevelMap.put s.isave p r)

/-! ### Sequencing (40_instruction_cycle.md) -/

/-- `ControlTransfer(target)` (R176). -/
def controlTransfer (s : State) (target : Word) : State := s.setSequence (trunc s.impl target) 0 .transfer

/-- `Advance()` (R174, R175), with n and l of the package as fetched in this step. -/
def advance (s : State) : State :=
  if s.iidx.val + 1 < s.shape.n then s.setSequence s.ipmar (s.iidx + 1) s.entry
  else s.setSequence (trunc s.impl (s.ipmar + 1#128)) 0 (.sequential s.shape.l)

/-! ### Exceptions (60_exceptions.md) -/

/-- `TrapEntry(e, p)` (R320, R324). -/
def trapEntry (s : State) (e : ExcId) (p : Nat) : State :=
  let saved : ExcSave := { opl := s.opl, ipmar := s.ipmar, iidx := s.iidx, ceid := s.impl.ceid.of e }
  ((((s.exceptionEntered p).setEsave p saved).setXie false).setOpl (max s.opl p)).controlTransfer (s.ehaAt p)

/-- `raise e` with the privilege level of R311. -/
def raise (s : State) (e : ExcId) : State := s.trapEntry e (s.impl.levelOf s.opl e)

/-- `ExceptionReturn(p)` (R325); XIE is unchanged (D31). -/
def exceptionReturn (s : State) (p : Nat) : State :=
  let r := s.esaveAt p
  (s.setOpl r.opl).setSequence (trunc s.impl r.ipmar) r.iidx .transfer

/-! ### Interrupts (60_exceptions.md) -/

/-- `InterruptEntry(p, A, k)` (R331) with the resume point where the machine stands; OPL <- p literally (D15). -/
def interruptEntry (s : State) (p : Nat) : State :=
  let saved : ResumePoint := { opl := s.opl, ipmar := s.ipmar, iidx := s.iidx }
  ((((s.interruptEntered p).setIsave p saved).setXie false).setOpl p).controlTransfer (s.ihaAt p)

/-- `InterruptReturn(p)` (R334); XIE is unchanged (D31). -/
def interruptReturn (s : State) (p : Nat) : State :=
  let r := s.isaveAt p
  (s.setOpl r.opl).setSequence (trunc s.impl r.ipmar) r.iidx .transfer

/-- Step 0 of R165: with XIE = 1 and interrupts pending, one of them, or none, is taken: a free choice (R332, D18). Answers
whether an interrupt was taken, and the state; what was consumed to set XIE then decided what executes (R101). -/
def interruptTurn (s : State) : Bool × State :=
  if s.xie && !s.xpend.isEmpty then
    match s.xpend[Config.freeChoice s.free]? with
    | some p => (true, (((s.drawn).setXpend (s.xpend.eraseIdx (Config.freeChoice s.free))).decidedAt [.priv .xie]).interruptEntry p)
    | none => (false, s.drawn)
  else (false, s)

/-! ### The end of a step (R165 steps 8 and 9) -/

/-- Step 9: what the outcome of an instruction does. A precise exception discards the instruction's writes (R177, R305). An
internal interrupt is taken in the same step, after `Advance` (R330, D17). A completed instruction's dependences are recorded
(R101). -/
def conclude (s : State) (f : Flow) (e : Effect) : State :=
  let t := s.track f e.state
  match e.outcome with
  | .next => t.advance
  | .transfer target => t.controlTransfer target
  | .exception x p => (s.abandon f e.state).trapEntry x p
  | .internalInterrupt p => t.advance.interruptEntry p
  | .done => t

/-- Steps 8 and 9: the privilege check (R173, R302), then the instruction. A check that fails consumed OPL to decide what executes. -/
def attempt (s : State) (priv : Nat) (f : Flow) (effect : State → Effect) : State :=
  if s.opl < priv then (s.decidedAt [.priv .opl]).raise .insufficientPrivilege else s.conclude f (effect s)

end State

end Sys2Proof.Machine
end

