-- ==== Sys2Proof/Machine/Operands.lean ====
section
/-! DEFINITION. Every operand form: source operands, addresses, extension of results, vector elements, element selects,
conditions and reports. -/

namespace Sys2Proof.Machine

open Sys2Proof

/-! ### Bit fields of a word -/

/-- The low n bits set. -/
def lowMask (n : Nat) : Word := BitVec.ofNat 128 (2 ^ n - 1)

/-- Bits [lo + n - 1 : lo] of `old` replaced by the low n bits of `v`. -/
def depositBits (old : Word) (lo n : Nat) (v : Word) : Word :=
  (old &&& ~~~(lowMask n <<< lo)) ||| ((v &&& lowMask n) <<< lo)

/-! ### Vector elements (R231) -/

/-- `elem(v, T, i)`, zero-extended to 64 bits. -/
def elem (v : Word) (t : VecType) (i : Nat) : BitVec 64 := (v.extractLsb' (t.elemBits * i) t.elemBits).setWidth 64

/-- `setelem(v, T, i, x)`. -/
def setElem (v : Word) (t : VecType) (i : Nat) (x : BitVec 64) : Word :=
  depositBits v (t.elemBits * i) t.elemBits (x.setWidth 128)

/-- The element operation applied to every element, the elements independent of each other (R230, R233). `b i` is the second
operand's element i, fixed before any element is written (R234). -/
def mapElems (t : VecType) (f : BitVec 64 → BitVec 64 → BitVec 64) (a : Word) (b : Nat → BitVec 64) : Word :=
  (List.range t.count).foldl (fun acc i => setElem acc t i (f (elem a t i) (b i))) 0#128

/-! ### Extension (R200, R252) -/

/-- An n-bit value v extended over a register that held `old`. The low n bits are v in every form. -/
def extendOver (e : Extend) (n : Nat) (v old : Word) : Word :=
  match e with
  | .zero => v &&& lowMask n
  | .sign => depositBits (if v.getLsbD (n - 1) then BitVec.allOnes 128 else 0#128) 0 n v
  | .keep => depositBits old 0 n v
  | .implementation k => depositBits (Config.extension k n v old) 0 n v

namespace State

/-- Writes an n-bit result to a register, extended as ISET says. -/
def fill (s : State) (r : Reg) (n : Nat) (v : Word) (e : Extend) : State :=
  s.writeReg r (extendOver e n v (s.readReg r))

/-! ### Sources -/

/-- The value of a source operand in a word; a 64-bit register's value in the low-order half, a CR's in bit 0. A 64-bit register that
supplies an address, or a source of a 129-bit result, is therefore zero-extended: DESIGN CHOICE, since whether one may, and how it enters,
is not in source (R256, R214; log 38). -/
def value (s : State) : Operand → Word
  | .reg r => s.readReg r
  | .imm v => v
  | .carry i => if s.cr[i] then 1#128 else 0#128
  | .ipmar => s.ipmar

/-- The 128-bit address an address computation gives, modulo 2**128 (R62, R256). -/
def address (s : State) : Address → Word
  | .sum base index scale disp => s.value base + (s.value index <<< scale.val) + disp
  | .implementation k a b => Config.address k (s.value a) (s.value b)

/-- The condition of a control flow instruction (R270). -/
def holds (s : State) : Condition → Bool
  | .always => true
  | .nonzero o => s.value o != 0#128
  | .zero o => s.value o == 0#128
  | .implementation k a b => Config.condition k (s.value a) (s.value b)

/-- Element i of the second operand of a vector instruction (R233, R234, R236). -/
def vecSource (s : State) (t : VecType) : VecSource → Nat → BitVec 64
  | .vector r, i => elem (s.readReg r.toReg) t i
  | .scalarLow o, _ => elem (s.value o) t 0
  | .scalarImplementation k o, _ => Config.scalarElem k t (s.value o)

end State

/-! ### Element selects (R240 to R242) -/

/-- What a select names: element number i; nothing, the select being unaligned; or something the forms by number and by
offset do not give a meaning to. -/
inductive Selected where
  | element (i : Nat)
  | unaligned
  | other
  deriving DecidableEq, Repr

/-- The element a select names in a register of `width` bits. A 64-bit register holds the elements that fit in it: DESIGN CHOICE, R230
leaves vectors in an SGPR or SRNR open (log 39). -/
def selectElement (form : SelectForm) (t : VecType) (width : Nat) (select : Word) : Selected :=
  match form with
  | .index => if t.elemBits * (select.toNat + 1) ≤ width then .element select.toNat else .other
  | .octetOffset =>
    if select.toNat % (t.elemBits / 8) ≠ 0 then .unaligned
    else if 8 * select.toNat + t.elemBits ≤ width then .element (select.toNat / (t.elemBits / 8))
    else .other
  | .implementation k => if Config.selectUnaligned k t select then .unaligned else .other

/-! ### Reports (R201, R259) -/

/-- Delivers a two-valued outcome: the state with it and how the step goes on. -/
def State.deliver (s : State) (r : Report) (ok : Bool) : Effect :=
  match r with
  | .register dst yes no => ⟨s.writeReg dst (if ok then yes else no), .next⟩
  | .bit dst n => ⟨s.writeReg dst (depositBits (s.readReg dst) n.val 1 (if ok then 1#128 else 0#128)), .next⟩
  | .carry i => ⟨s.setCr (i.castLE (by decide)) ok, .next⟩
  | .transferIf sense target => if ok == sense then ⟨s, .transfer (s.address target)⟩ else ⟨s, .next⟩
  | .implementation k dst => ⟨s.writeReg dst (Config.reported k ok (s.readReg dst)), .next⟩

/-! ### What the forms above consume (R101) -/

/-- The places that a result extended over its register keeps. -/
def keptPlaces (e : Extend) (dst : Reg) : List Place :=
  match e with
  | .zero | .sign => []
  | .keep | .implementation _ => regPlaces dst

/-- The places a condition is decided from. -/
def conditionPlaces : Condition → List Place
  | .always => []
  | .nonzero o | .zero o => operandPlaces o
  | .implementation _ a b => operandPlaces a ++ operandPlaces b

/-- The flow of an instruction that reports an outcome found from these places. -/
def reportFlow (found : List Place) (r : Report) : Flow :=
  match r with
  | .register dst _ _ => { used := found, results := regPlaces dst }
  | .bit dst _ | .implementation _ dst => { used := found ++ regPlaces dst, results := regPlaces dst }
  | .carry i => { used := found, results := [.cr (i.castLE (by decide))] }
  | .transferIf _ target => { decides := found ++ addressPlaces target }

end Sys2Proof.Machine
end

