-- ==== Sys2Proof/Machine/Control.lean ====
section
/-! DEFINITION. Control flow, interrupt-generating, interrupt-sending and NULL instructions
(46_control_interrupt_null.md). -/

namespace Sys2Proof.Machine

open Sys2Proof

/-- `ControlTransfer(target)` when taken, `Advance()` when not (R270). -/
def controlFlowEffect (o : ControlFlow) (s : State) : Effect :=
  if s.holds o.cond then ⟨s, .transfer (s.address o.target)⟩ else ⟨s, .next⟩

/-- What it consumes, to decide which accesses are initiated: its condition and its target (R101, R270). -/
def controlFlowFlow (o : ControlFlow) : Flow := { decides := conditionPlaces o.cond ++ addressPlaces o.target }

/-- CONTROL-FLOW-CLASS (R270). -/
def execControlFlow (o : ControlFlow) (s : State) : Host.Outcome State Fault Refusal :=
  .next (s.attempt o.priv (controlFlowFlow o) (controlFlowEffect o))

/-- An internal interrupt of the level the instruction determines; XIE does not hold it back (R272). -/
def internalInterruptEffect (o : InternalInterrupt) (s : State) : Effect := ⟨s, .internalInterrupt o.level⟩

/-- INTERNAL-INTERRUPT-CLASS (R272). -/
def execInternalInterrupt (o : InternalInterrupt) (s : State) : Host.Outcome State Fault Refusal :=
  .next (s.attempt o.priv {} (internalInterruptEffect o))

/-- An interrupt of level PL_MAX sent (R273). -/
def State.send (s : State) (kind : DestKind) (address : Word) : State :=
  s.setOutbox (⟨kind, address, s.impl.plMax⟩ :: s.outbox)

/-- The interrupt leaves with the sender's PL_MAX as its level; the sender only advances (R273, R332). What the platform
does with an address that names nothing is not in source and not this processor's (U26, log 19). The sender's own address is
treated as any other: DESIGN CHOICE, since whether a processor may send to itself is not stated (log 41). -/
def sendInterruptEffect (o : SendInterrupt) (s : State) : Effect :=
  ⟨s.send o.kind (s.value o.address), .next⟩

/-- SEND-INTERRUPT-CLASS: its privilege level is the highest supported (R273). -/
def execSendInterrupt (o : SendInterrupt) (s : State) : Host.Outcome State Fault Refusal :=
  .next (s.attempt s.impl.plMax {} (sendInterruptEffect o))

/-- NULL has no effect (R274). -/
def nullEffect (_o : NullOp) (s : State) : Effect := ⟨s, .next⟩

/-- NULL (R274). -/
def execNull (o : NullOp) (s : State) : Host.Outcome State Fault Refusal :=
  .next (s.attempt o.priv {} (nullEffect o))

end Sys2Proof.Machine
end

