-- ==== Sys2Proof/Machine/Flags.lean ====
section
/-! DEFINITION. The carry registers: the only flags of the base architecture (R21, R28). -/

namespace Sys2Proof.Machine

open Sys2Proof

namespace State

/-- What a carry-producing write to GPR[g] does to one of the CRs of the two SGPRs it overwrites (R29): nothing if it is
CR[g]; 0 if it is exclusively associated with the SGPR (64 or above); an unpredictable bit otherwise (U28). -/
def overwrittenCr (s : State) (g : Fin 64) (k : Fin 128) : State :=
  if k.val = g.val then s
  else if 64 ≤ k.val then s.setCr k false
  else (s.setCr k (Config.freeBit s.free)).drawn

/-- `CarryWriteGPR(g, r)` of R29. -/
def carryWriteGpr (s : State) (g : Fin 64) (r : BitVec 129) : State :=
  let s1 := (s.setGpr g (r.setWidth 128)).setCr ⟨g.val, by omega⟩ (r.getLsbD 128)
  (s1.overwrittenCr g ⟨2 * g.val, by omega⟩).overwrittenCr g ⟨2 * g.val + 1, by omega⟩

/-- The carry-producing write of a 65-bit result to SGPR[i] (R28): no other CR is written. -/
def carryWriteSgpr (s : State) (i : Fin 128) (r : BitVec 65) : State :=
  (s.setSgpr i (r.setWidth 64)).setCr i (r.getLsbD 64)

end State

/-- The CRs that a carry-producing write to GPR[g] writes besides CR[g] (R29). -/
def overwrittenCrs (g : Fin 64) : List Place :=
  ([⟨2 * g.val, by omega⟩, ⟨2 * g.val + 1, by omega⟩].filter fun k : Fin 128 => k.val != g.val).map Place.cr

/-- The register of a carry-producing result. -/
def carryReg : CarryDest → Reg
  | .gpr g => .gpr g
  | .sgpr i => .sgpr i

/-- Its CR (R28, R29). -/
def carryPlace : CarryDest → Place
  | .gpr g => .cr (g.castLE (by decide))
  | .sgpr i => .cr i

/-- Where a carry-producing result goes: the register and its CR. -/
def carryPlaces (d : CarryDest) : List Place := carryPlace d :: regPlaces (carryReg d)

/-- The other CRs that it overwrites (R29). -/
def carryOverwritten : CarryDest → List Place
  | .gpr g => overwrittenCrs g
  | .sgpr _ => []

/-! ### Results one bit wider than their operands (R214) -/

/-- a + b + carry as a 129-bit result. -/
def sum129 (a b : Word) (c : Bool) : BitVec 129 := a.setWidth 129 + b.setWidth 129 + (BitVec.ofBool c).setWidth 129

/-- a + b + carry as a 65-bit result. -/
def sum65 (a b : SemiWord) (c : Bool) : BitVec 65 := a.setWidth 65 + b.setWidth 65 + (BitVec.ofBool c).setWidth 65

/-- The 129-bit result of an operation on 128-bit operands. `c` is the carry-in where the instruction has one; without it a
sum adds nothing and a difference adds the one of the two's complement. -/
def result129 (op : CarryOp) (a b : Word) (c : Option Bool) : BitVec 129 :=
  match op with
  | .sum => sum129 a b (c.getD false)
  | .difference => sum129 a (~~~b) (c.getD true)
  | .implementation k => Config.carryResult k 128 a b (c.getD false)

/-- The 65-bit result of an operation on 64-bit operands. -/
def result65 (op : CarryOp) (a b : SemiWord) (c : Option Bool) : BitVec 65 :=
  match op with
  | .sum => sum65 a b (c.getD false)
  | .difference => sum65 a (~~~b) (c.getD true)
  | .implementation k => (Config.carryResult k 64 (a.setWidth 128) (b.setWidth 128) (c.getD false)).setWidth 65

end Sys2Proof.Machine
end

