-- ==== Sys2Proof/Machine/MemoryAccess.lean ====
section
/-! DEFINITION. Loads, stores, MEMORY BARRIER and STORE ATOMIC (45_memory_access.md). -/

namespace Sys2Proof.Machine

open Sys2Proof

/-- UNALIGNED PRIMARY MEMORY ADDRESS: nothing is written and no memory operation is performed (R71, R106). -/
def unalignedAddress (s : State) : Effect :=
  ⟨s, .exception .unalignedPrimaryMemoryAddress (s.impl.levelOf s.opl .unalignedPrimaryMemoryAddress)⟩

/-- `dest <- MemReadW(wa)` (R251). -/
def loadWordEffect (o : LoadWord) (s : State) : Effect :=
  let r := s.memReadW (s.address o.addr)
  ⟨r.2.writeReg o.dst.toReg r.1, .next⟩

/-- What it consumes: its address. -/
def loadWordFlow (o : LoadWord) : Flow := { address := addressPlaces o.addr, results := regPlaces o.dst.toReg }

/-- LOAD-WORD-ADDRESSED (R251). -/
def execLoadWord (o : LoadWord) (s : State) : Host.Outcome State Fault Refusal :=
  .next (s.attempt o.priv (loadWordFlow o) (loadWordEffect o))

/-- `MemWriteW(wa, src)` (R253). -/
def storeWordEffect (o : StoreWord) (s : State) : Effect :=
  ⟨s.memWriteW (s.address o.addr) (s.readReg o.src.toReg), .next⟩

/-- What it consumes: its address and the word. -/
def storeWordFlow (o : StoreWord) : Flow := { address := addressPlaces o.addr, stored := regPlaces o.src.toReg }

/-- STORE-WORD-ADDRESSED (R253). -/
def execStoreWord (o : StoreWord) (s : State) : Host.Outcome State Fault Refusal :=
  .next (s.attempt o.priv (storeWordFlow o) (storeWordEffect o))

/-- `dest <- extend(MemRead(oa, n))` (R252). -/
def loadOctetEffect (o : LoadOctet) (s : State) : Effect :=
  match s.memRead (s.address o.addr) o.size with
  | some r => ⟨r.2.fill o.dst (8 * o.size.octets) r.1 o.ext, .next⟩
  | none => unalignedAddress s

/-- What it consumes: its address, and the old contents where they are kept. -/
def loadOctetFlow (o : LoadOctet) : Flow :=
  { address := addressPlaces o.addr, raises := addressPlaces o.addr, used := keptPlaces o.ext o.dst, results := regPlaces o.dst }

/-- LOAD-OCTET-ADDRESSED (R252). -/
def execLoadOctet (o : LoadOctet) (s : State) : Host.Outcome State Fault Refusal :=
  .next (s.attempt o.priv (loadOctetFlow o) (loadOctetEffect o))

/-- `MemWrite(oa, n, src[8n-1:0])` (R254). -/
def storeOctetEffect (o : StoreOctet) (s : State) : Effect :=
  match s.memWrite (s.address o.addr) o.size (s.readReg o.src) with
  | some t => ⟨t, .next⟩
  | none => unalignedAddress s

/-- What it consumes: its address and the unit. -/
def storeOctetFlow (o : StoreOctet) : Flow :=
  { address := addressPlaces o.addr, raises := addressPlaces o.addr, stored := regPlaces o.src }

/-- STORE-OCTET-ADDRESSED (R254). -/
def execStoreOctet (o : StoreOctet) (s : State) : Host.Outcome State Fault Refusal :=
  .next (s.attempt o.priv (storeOctetFlow o) (storeOctetEffect o))

/-- MEMORY BARRIER reads and writes nothing; it is an event in program order (R258, R98). -/
def memoryBarrierEffect (o : MemoryBarrier) (s : State) : Effect := ⟨s.note (.barrier o.sel), .next⟩

/-- MEMORY_BARRIER (R258). -/
def execMemoryBarrier (o : MemoryBarrier) (s : State) : Host.Outcome State Fault Refusal :=
  .next (s.attempt o.priv {} (memoryBarrierEffect o))

/-- The octet location a STORE ATOMIC writes (R259). -/
def atomicLocation (o : StoreAtomic) (s : State) : Nat :=
  match o.target with
  | .word addr => 16 * s.wordLocation (s.address addr)
  | .octets _ addr => s.octetLocation (s.address addr)

/-- How many octets a STORE ATOMIC writes. -/
def atomicOctets (o : StoreAtomic) : Nat :=
  match o.target with
  | .word _ => 16
  | .octets size _ => size.octets

/-- Whether the "necessary conditions" hold for the location's present content and the value to be stored (R259). -/
def atomicHolds (o : StoreAtomic) (s : State) : Bool :=
  Config.atomicCondition o.condition s.free (atomicLocation o s)
    (BitVec.ofNat 128 (Memory.readLE s.mem (atomicLocation o s) (atomicOctets o))) (s.readReg o.src)

/-- Delivers an outcome that need not be reported. -/
def State.deliverAny (s : State) (r : Option Report) (ok : Bool) : Effect :=
  match r with
  | some r => s.deliver r ok
  | none => ⟨s, .next⟩

/-- A STORE ATOMIC fails on an unbacked location unconditionally; elsewhere it writes and succeeds if its conditions
hold, and otherwise fails and initiates no write (R259, R106). -/
def storeAtomicEffect (o : StoreAtomic) (s : State) : Effect :=
  let a := atomicLocation o s
  if !aligned a (atomicOctets o) then unalignedAddress s
  else if !s.isBacked (a / 16) then s.deliverAny o.report false
  else if atomicHolds o s then (s.drawn.store a (atomicOctets o) (s.readReg o.src).toNat).deliverAny o.report true
  else s.drawn.deliverAny o.report false

/-- The places a STORE ATOMIC's address is computed from. -/
def atomicAddressPlaces (o : StoreAtomic) : List Place :=
  match o.target with
  | .word addr | .octets _ addr => addressPlaces addr

/-- What it consumes: its address and its value, which its conditions see too. -/
def storeAtomicFlow (o : StoreAtomic) : Flow :=
  let found := atomicAddressPlaces o ++ regPlaces o.src
  let reported : Flow :=
    match o.report with
    | some r => reportFlow found r
    | none => {}
  { reported with
    address := atomicAddressPlaces o, raises := atomicAddressPlaces o, stored := regPlaces o.src, guards := found }

/-- STORE_ATOMIC (R259). -/
def execStoreAtomic (o : StoreAtomic) (s : State) : Host.Outcome State Fault Refusal :=
  .next (s.attempt o.priv (storeAtomicFlow o) (storeAtomicEffect o))

end Sys2Proof.Machine
end

