-- ==== Sys2Proof/Machine/Privileged.lean ====
section
/-! DEFINITION. The operations on privileged state that extensions must supply (R275, R325, R333, R334, R108). -/

namespace Sys2Proof.Machine

open Sys2Proof

/-- The privilege level an operation needs: that of the state it touches, at least 1 (R275, R301, R333, D5). Setting OPL to q needs q,
so that a q above the present OPL takes INSUFFICIENT PRIVILEGE: DESIGN CHOICE, since R275 and R333 speak of `OPL <- q` with q up to OPL
only, and what a greater q does is not in source (log 21). -/
def privLevel : PrivOp → Nat
  | .setEha p _ | .setIha p _ => max 1 p
  | .readEsave p _ _ | .writeEsave p _ _ => max 1 p
  | .readIsave p _ _ | .writeIsave p _ _ => max 1 p
  | .exceptionReturn p | .interruptReturn p => max 1 p
  | .setXie _ => 1
  | .lowerOpl q _ => max 1 q
  | .enforceCoherence => 1

/-- A level written to a saved OPL, which holds 0 to PL_MAX (R42). What a greater value leaves there is not in source: a free
value in that range (log 21). A level above the writer's own OPL is kept, so that a return can raise OPL: DESIGN CHOICE, since R303 lets
OPL rise by entry alone and whether software can write such a level is not in source (R325; log 21). -/
def savedLevel (s : State) (v : Word) : Nat :=
  if v.toNat ≤ s.impl.plMax then v.toNat else Config.freeChoice s.free % (s.impl.plMax + 1)

/-- The state after `savedLevel`: one free value drawn if it took one. -/
def afterSavedLevel (s : State) (v : Word) : State := if v.toNat ≤ s.impl.plMax then s else s.drawn

/-- An instruction number written to a saved IIDX, which holds 0 to 3: the two low bits (log 21). -/
def savedIndex (v : Word) : Fin 4 := ⟨v.toNat % 4, by omega⟩

/-- A field of ESAVE[p] as a value, zero-extended (R42). -/
def excSaveField (r : ExcSave) : SaveField → Word
  | .resume .opl => BitVec.ofNat 128 r.opl
  | .resume .ipmar => r.ipmar
  | .resume .iidx => BitVec.ofNat 128 r.iidx.val
  | .ceid => BitVec.ofNat 128 r.ceid

/-- A field of ISAVE[p] as a value, zero-extended (R43). -/
def resumeField (r : ResumePoint) : ResumeField → Word
  | .opl => BitVec.ofNat 128 r.opl
  | .ipmar => r.ipmar
  | .iidx => BitVec.ofNat 128 r.iidx.val

/-- A field of ESAVE[p] written (R325: "if the extension makes the set writable"). A saved IPMAR keeps all 128 bits: DESIGN CHOICE (N7;
log 46); a return reduces it (R78). -/
def writeExcSave (s : State) (p : Nat) (f : SaveField) (v : Word) : State :=
  let r := s.esaveAt p
  match f with
  | .resume .opl => (afterSavedLevel s v).setEsave p { r with opl := savedLevel s v }
  | .resume .ipmar => s.setEsave p { r with ipmar := v }
  | .resume .iidx => s.setEsave p { r with iidx := savedIndex v }
  | .ceid => s.setEsave p { r with ceid := v.toNat }

/-- A field of ISAVE[p] written; a saved IPMAR as in `writeExcSave` (log 46). -/
def writeResume (s : State) (p : Nat) (f : ResumeField) (v : Word) : State :=
  let r := s.isaveAt p
  match f with
  | .opl => (afterSavedLevel s v).setIsave p { r with opl := savedLevel s v }
  | .ipmar => s.setIsave p { r with ipmar := v }
  | .iidx => s.setIsave p { r with iidx := savedIndex v }

/-- Privileged state as a value, zero-extended; XIE in bit 0. -/
def privField (s : State) : PrivField → Word
  | .eha p => s.ehaAt p
  | .iha p => s.ihaAt p
  | .esave p f => excSaveField (s.esaveAt p) f
  | .isave p f => resumeField (s.isaveAt p) f
  | .xie => if s.xie then 1#128 else 0#128
  | .opl => BitVec.ofNat 128 s.opl

/-- Privileged state written (R333). OPL takes a level up to itself; what a greater value leaves is not in source: a free level in that
range (log 21). -/
def writePrivField (s : State) (f : PrivField) (v : Word) : State :=
  match f with
  | .eha p => s.setEha p v
  | .iha p => s.setIha p v
  | .esave p f => writeExcSave s p f v
  | .isave p f => writeResume s p f v
  | .xie => s.setXie (v.getLsbD 0)
  | .opl => if v.toNat ≤ s.opl then s.setOpl v.toNat else (s.setOpl (Config.freeChoice s.free % (s.opl + 1))).drawn

/-- The places that a return consumes to go where it goes (R325, R334). -/
def returnPlaces (saved : ResumeField → PrivField) : List Place := [.priv (saved .ipmar), .priv (saved .iidx)]

/-- What an operation on privileged state does (R333, R325, R334, R108). Coherence enforced on the executing processor alone suffices,
for every location and whoever stored there: DESIGN CHOICE, since R366 and N9 leave open on which processor the mechanism must be
applied (log 37). -/
def privilegedEffect (o : PrivilegedState) (s : State) : Effect :=
  match o.op with
  | .setEha p src => ⟨s.setEha p (s.value src), .next⟩
  | .setIha p src => ⟨s.setIha p (s.value src), .next⟩
  | .readEsave p f dst => ⟨s.writeReg dst.toReg (excSaveField (s.esaveAt p) f), .next⟩
  | .writeEsave p f src => ⟨writeExcSave s p f (s.value src), .next⟩
  | .readIsave p f dst => ⟨s.writeReg dst.toReg (resumeField (s.isaveAt p) f), .next⟩
  | .writeIsave p f src => ⟨writeResume s p f (s.value src), .next⟩
  | .exceptionReturn p => ⟨s.exceptionReturn p, .done⟩
  | .interruptReturn p => ⟨s.interruptReturn p, .done⟩
  | .setXie on => ⟨s.setXie on, .next⟩
  | .lowerOpl q none => ⟨s.setOpl q, .next⟩
  | .lowerOpl q (some target) => ⟨s.setOpl q, .transfer (s.address target)⟩
  | .enforceCoherence => ⟨s.setStale [], .next⟩

/-- What it consumes and produces: privileged state holds what was written to it; a return restores OPL, and where it goes is decided
by what was saved. -/
def privilegedFlow (o : PrivilegedState) : Flow :=
  match o.op with
  | .setEha p src => { used := operandPlaces src, results := [.priv (.eha p)] }
  | .setIha p src => { used := operandPlaces src, results := [.priv (.iha p)] }
  | .readEsave p f dst => { used := [.priv (.esave p f)], results := regPlaces dst.toReg }
  | .writeEsave p f src => { used := operandPlaces src, results := [.priv (.esave p f)] }
  | .readIsave p f dst => { used := [.priv (.isave p f)], results := regPlaces dst.toReg }
  | .writeIsave p f src => { used := operandPlaces src, results := [.priv (.isave p f)] }
  | .exceptionReturn p =>
    { used := [.priv (.esave p (.resume .opl))], results := [.priv .opl]
      decides := returnPlaces fun f => .esave p (.resume f) }
  | .interruptReturn p =>
    { used := [.priv (.isave p .opl)], results := [.priv .opl], decides := returnPlaces (.isave p) }
  | .setXie _ => { cleared := [.priv .xie] }
  | .lowerOpl _ none => { cleared := [.priv .opl] }
  | .lowerOpl _ (some target) => { cleared := [.priv .opl], decides := addressPlaces target }
  | .enforceCoherence => {}

/-- PRIVILEGED-STATE-CLASS (R275). -/
def execPrivilegedState (o : PrivilegedState) (s : State) : Host.Outcome State Fault Refusal :=
  .next (s.attempt (privLevel o.op) (privilegedFlow o) (privilegedEffect o))

end Sys2Proof.Machine
end

