-- ==== Sys2Proof/Machine/Composite.lean ====
section
/-! DEFINITION. Instructions of ISET that are none of the named classes, as actions over numbered values (R163, log 42). What each
value, result, access and decision depends on (R101) is recorded action by action (log 43). -/

namespace Sys2Proof.Machine

open Sys2Proof

/-- A numbered value, and the recorded reads it depends on. -/
structure Value where
  word : Word
  reads : List Nat

/-- A composite instruction under way. -/
structure Running where
  state : State
  values : List Value
  /-- The reads consumed to decide what executes after the instruction. -/
  decided : List Nat
  outcome : IsetOutcome

namespace Running

/-- A numbered value; `Composite.wf` sees to it that there is one. -/
def arg (r : Running) (n : Nat) : Value := r.values.getD n ⟨0#128, []⟩

/-- One more value, which depends on these reads. -/
def push (r : Running) (v : Word) (l : List Nat) : Running := { r with values := r.values ++ [⟨v, l⟩] }

/-- The state replaced. -/
def withState (r : Running) (t : State) : Running := { r with state := t }

/-- The state replaced by one in which these places have new contents, which depend on these reads. -/
def put (r : Running) (t : State) (ps : List Place) (l : List Nat) : Running :=
  r.withState (t.setDepend (t.depend.put ps l))

/-- These reads decide what executes next. -/
def decidedBy (r : Running) (l : List Nat) : Running := { r with decided := addReads r.decided l }

/-- The instruction goes on or ends as said (R163). -/
def ending (r : Running) (e : IsetOutcome) : Running := { r with outcome := e }

/-- Ends with the exception `e`, which these reads decided (R163). -/
def fail (r : Running) (e : ExcId) (l : List Nat) : Running :=
  (r.decidedBy l).ending (.exception e (r.state.impl.levelOf r.state.opl e))

/-- The state replaced by one after a store; its write depends on the address, the value and the guard (R101). -/
def wrote (r : Running) (t : State) (addr value : Nat) (guard : List Nat) : Running :=
  r.withState (t.writesConsumed r.state.trace.length
    ⟨(r.arg addr).reads, addReads r.state.depend.control guard, (r.arg value).reads⟩)

/-- The instruction ends where a return leads (R325, R334), which the save set decides; OPL depends on the saved one. -/
def returned (r : Running) (t : State) (saved : ResumeField → PrivField) (guard : List Nat) : Running :=
  let d := r.state.depend
  ((r.put t [.priv .opl] (addReads (d.reads [.priv (saved .opl)]) guard)).decidedBy
    (addReads (d.reads (returnPlaces saved)) guard)).ending .done

end Running

/-- A carry-producing write of a value and a carry (R28, R29). -/
def State.writeCarry (s : State) (dst : CarryDest) (v : Word) (carry : Bool) : State :=
  match dst with
  | .gpr g => s.carryWriteGpr g (BitVec.ofBool carry ++ v)
  | .sgpr i => s.carryWriteSgpr i (BitVec.ofBool carry ++ v.setWidth 64)

/-- One action, `guard` being the reads its guard depends on. Memory is reached through the primitives of R90 and R91 only, privileged
state by the operations of R333. -/
def runAction (a : Action) (guard : List Nat) (r : Running) : Running :=
  match a with
  | .compute k args =>
    r.push (Config.computed k (args.map fun n => (r.arg n).word)) (args.foldl (fun l n => addReads l (r.arg n).reads) guard)
  | .load size addr =>
    let l := addReads (r.arg addr).reads guard
    match r.state.memRead (r.arg addr).word size with
    | some (v, t) => (r.withState t).push v (addReads l [r.state.trace.length])
    | none => r.fail .unalignedPrimaryMemoryAddress l
  | .loadWord addr =>
    let (v, t) := r.state.memReadW (r.arg addr).word
    (r.withState t).push v (addReads (addReads (r.arg addr).reads guard) [r.state.trace.length])
  | .store size addr value =>
    match r.state.memWrite (r.arg addr).word size (r.arg value).word with
    | some t => r.wrote t addr value guard
    | none => r.fail .unalignedPrimaryMemoryAddress (addReads (r.arg addr).reads guard)
  | .storeWord addr value => r.wrote (r.state.memWriteW (r.arg addr).word (r.arg value).word) addr value guard
  | .barrier sel => r.withState (r.state.note (.barrier sel))
  | .write dst value =>
    r.put (r.state.writeReg dst (r.arg value).word) (regPlaces dst) (addReads (r.arg value).reads guard)
  | .writeCarry dst value carry =>
    let t := r.state.writeCarry dst (r.arg value).word ((r.arg carry).word.getLsbD 0)
    let q := r.put t (carryOverwritten dst) guard
    let q := q.put q.state (regPlaces (carryReg dst)) (addReads (r.arg value).reads guard)
    q.put q.state [carryPlace dst] (addReads (r.arg carry).reads guard)
  | .transfer target => (r.decidedBy (addReads (r.arg target).reads guard)).ending (.transfer (r.arg target).word)
  | .internalInterrupt p => (r.decidedBy guard).ending (.internalInterrupt p)
  | .unalignedSelect => r.fail .unalignedElementSelect guard
  | .readPriv f => r.push (privField r.state f) (addReads (r.state.depend.reads [.priv f]) guard)
  | .writePriv f value =>
    r.put (writePrivField r.state f (r.arg value).word) [.priv f] (addReads (r.arg value).reads guard)
  | .exceptionReturn p => r.returned (r.state.exceptionReturn p) (fun f => .esave p (.resume f)) guard
  | .interruptReturn p => r.returned (r.state.interruptReturn p) (.isave p) guard
  | .enforceCoherence => r.withState (r.state.setStale [])
  | .sendInterrupt kind address => r.withState (r.state.send kind (r.arg address).word)

/-- The places that an action gives new contents. -/
def actionResults : Action → List Place
  | .write dst _ => regPlaces dst
  | .writeCarry dst _ _ => carryPlaces dst ++ carryOverwritten dst
  | .writePriv f _ => [.priv f]
  | .exceptionReturn _ | .interruptReturn _ => [.priv .opl]
  | _ => []

/-- The action says where control goes next. -/
def actionTransfers : Action → Bool
  | .transfer _ | .internalInterrupt _ | .exceptionReturn _ | .interruptReturn _ => true
  | _ => false

/-- An action that its guard leaves out. It gives the value 0 where it would give one, so that values keep their numbers. What it would
have written depends on the guard too, being kept because of it, and so does what executes next if the action would have said so. -/
def skipAction (a : Action) (guard : List Nat) (r : Running) : Running :=
  let d := r.state.depend
  let kept := (actionResults a).foldl (fun d p => d.put [p] (addReads (d.readsAt p) guard)) d
  let q := r.withState (r.state.setDepend kept)
  let q := if actionTransfers a then q.decidedBy guard else q
  if a.produces = 0 then q else q.push 0#128 guard

/-- An action if its guard holds. -/
def runGuarded (a : GuardedAction) (r : Running) : Running :=
  match a.guard with
  | some (n, sense) =>
    if ((r.arg n).word != 0#128) == sense then runAction a.action (r.arg n).reads r
    else skipAction a.action (r.arg n).reads r
  | none => runAction a.action [] r

/-- The actions in order; none after an exception (R305). Of the actions that say where control goes, the last one done counts. -/
def runActions : List GuardedAction → Running → Running
  | [], r => r
  | a :: rest, r =>
    match r.outcome with
    | .exception _ _ => r
    | _ => runActions rest (runGuarded a r)

/-- A composite instruction: its sources are read first, then its actions are done (R163). -/
def compositeEffect (o : Composite) (s : State) : Effect :=
  let r := runActions o.actions ⟨s, o.sources.map fun x => ⟨s.value x, s.depend.reads (operandPlaces x)⟩, [], .next⟩
  ⟨r.state.setDepend (r.state.depend.decidedBy r.decided), r.outcome⟩

/-- The actions of a composite instruction record their dependences themselves. -/
def compositeFlow : Flow := { recorded := true }

end Sys2Proof.Machine
end

