-- ==== Sys2Proof/Machine/Identification.lean ====
section
/-! DEFINITION. The AVI-obtaining and the AE-query instruction (41_version_extension.md). -/

namespace Sys2Proof.Machine

open Sys2Proof

/-- `dest <- AVI`, a 64-bit unsigned integer (R200). -/
def aviObtainEffect (o : AviObtain) (s : State) : Effect :=
  ⟨s.fill o.dst 64 (s.impl.avi.setWidth 128) o.ext, .next⟩

/-- What it consumes: the old contents, where they are kept. -/
def aviObtainFlow (o : AviObtain) : Flow := { used := keptPlaces o.ext o.dst, results := regPlaces o.dst }

/-- AVI-OBTAIN (R200). -/
def execAviObtain (o : AviObtain) (s : State) : Host.Outcome State Fault Refusal :=
  .next (s.attempt o.priv (aviObtainFlow o) (aviObtainEffect o))

/-- `(AEN, AEI) in AE_SET` (R201); both are 64-bit unsigned integers. Of a wider operand the low-order 64 bits count: DESIGN CHOICE,
since how the pair is supplied is not in source (log 38). -/
def aeSupported (c : Impl) (aen aei : Word) : Bool := c.aeSet.contains (aen.setWidth 64, aei.setWidth 64)

/-- `result <- ((AEN, AEI) in AE_SET)` (R201). -/
def aeQueryEffect (o : AeQuery) (s : State) : Effect :=
  s.deliver o.report (aeSupported s.impl (s.value o.aen) (s.value o.aei))

/-- What it consumes: the pair. -/
def aeQueryFlow (o : AeQuery) : Flow := reportFlow (operandPlaces o.aen ++ operandPlaces o.aei) o.report

/-- AE-QUERY (R201). -/
def execAeQuery (o : AeQuery) (s : State) : Host.Outcome State Fault Refusal :=
  .next (s.attempt o.priv (aeQueryFlow o) (aeQueryEffect o))

end Sys2Proof.Machine
end

