-- ==== Sys2Proof/Machine/IntegerCarry.lean ====
section
/-! DEFINITION. Integer instructions with and without a carry (42_integer_carry.md). -/

namespace Sys2Proof.Machine

open Sys2Proof

/-- A 129-bit result to a GPR by `CarryWriteGPR`, a 65-bit result to an SGPR (R214, R28, R29). For an SGPR the sources are cut to
their low-order 64 bits, whatever register they stand in; for a GPR a source in a 64-bit register is zero-extended to 128 bits: DESIGN
CHOICE, since the source operands are not in source (log 38). -/
def integerCarryEffect (o : IntegerCarry) (s : State) : Effect :=
  let c := o.carryIn.map fun i => s.cr[i]
  match o.dst with
  | .gpr g => ⟨s.carryWriteGpr g (result129 o.op (s.value o.a) (s.value o.b) c), .next⟩
  | .sgpr i => ⟨s.carryWriteSgpr i (result65 o.op ((s.value o.a).setWidth 64) ((s.value o.b).setWidth 64) c), .next⟩

/-- What it consumes: both operands and the carry-in. -/
def integerCarryFlow (o : IntegerCarry) : Flow :=
  { used := operandPlaces o.a ++ operandPlaces o.b ++ (o.carryIn.map Place.cr).toList
    results := carryPlaces o.dst, cleared := carryOverwritten o.dst }

/-- INTEGER-CARRY-CLASS (R214). -/
def execIntegerCarry (o : IntegerCarry) (s : State) : Host.Outcome State Fault Refusal :=
  .next (s.attempt o.priv (integerCarryFlow o) (integerCarryEffect o))

/-- The result of an operation without carry; a shift is logical, addresses being unsigned (R67, R218). -/
def scalarResultOf (op : ScalarOp) (a b : Word) : Word :=
  match op with
  | .copy => a
  | .shiftLeft n => a <<< n.val
  | .shiftRight n => a >>> n.val
  | .implementation k => Config.scalarResult k a b

/-- A result without carry leaves every CR unchanged (R29 last paragraph, D14). It replaces the whole destination register: DESIGN
CHOICE for scalars of 8, 16 and 32 bits, of which R217 does not say what becomes of the rest (log 38). DESIGN CHOICE too are the widths
of the sources, which are not in source (N1, R217; log 38): a source in a 64-bit register is zero-extended to 128 bits, and the operation
is done on 128 bits; for an SGPR or SRNR its result is then cut to 64, so that a right shift brings in bits of the upper half. -/
def scalarEffect (o : ScalarResult) (s : State) : Effect :=
  ⟨s.writeReg o.dst (scalarResultOf o.op (s.value o.a) (s.value o.b)), .next⟩

/-- What it consumes: both operands. -/
def scalarFlow (o : ScalarResult) : Flow :=
  { used := operandPlaces o.a ++ operandPlaces o.b, results := regPlaces o.dst }

end Sys2Proof.Machine
end

