-- ==== Sys2Proof/Machine/Iset.lean ====
section
/-! DEFINITION. The open parameter ISET (R163, D1) as the implementation's table: which lines the processor recognises, what a
word decodes to, and which parameter records are implementations of the architecture (R10). -/

namespace Sys2Proof.Machine

open Sys2Proof

/-! ### Primary operation codes (R133) -/

/-- The length of an instruction in bits. -/
def wordLength : InstrWord → Nat
  | .w30 _ => 30
  | .w40 _ => 40
  | .w50 _ => 50
  | .w60 _ => 60

/-- `popc(instr)`, bits 2:0 (R133). -/
def primaryCode : InstrWord → Nat
  | .w30 b => (b.extractLsb' 0 3).toNat
  | .w40 b => (b.extractLsb' 0 3).toNat
  | .w50 b => (b.extractLsb' 0 3).toNat
  | .w60 b => (b.extractLsb' 0 3).toNat

/-- The primary operation code is reserved for architecture extensions: 5 to 7 in 30- and 40-bit, 4 to 7 in 50- and 60-bit
instructions (R133). -/
def reservedForExtensions (w : InstrWord) : Bool :=
  match w with
  | .w30 _ | .w40 _ => 5 ≤ primaryCode w
  | .w50 _ | .w60 _ => 4 ≤ primaryCode w

/-- The base architecture uses this word's length and primary operation code: a line of its own has them. The others are "reserved
by the base architecture for future use" (R133, R204). -/
def usedByBase (c : Impl) (w : InstrWord) : Bool :=
  c.iset.any fun e => e.owner == .base && wordLength e.word == wordLength w && primaryCode e.word == primaryCode w

/-! ### Who supplies what -/

/-- The extension is implemented: it is reported as supported, or stands in AEN 0, which is not externally identifiable (R202,
D27; log 31). -/
def implemented (c : Impl) (aen aei : BitVec 64) : Bool := aen == 0#64 || c.aeSet.contains (aen, aei)

/-- An instruction on privileged state (R275). -/
def onPrivilegedState : Op → Bool
  | .privilegedState _ => true
  | .composite o => o.actions.any fun a => a.action.privileged
  | _ => false

/-- A mechanism that an extension must supply: the instructions on privileged state (R275, R9) and that which sends interrupts
(R273). -/
def extensionMechanism : Op → Bool
  | .privilegedState _ | .sendInterrupt _ => true
  | .composite o => o.actions.any fun a => a.action.privileged || a.action.sends
  | _ => false

/-- The processor recognises this line of its table. The base architecture has its own primary operation codes and none of the
mechanisms that extensions supply. An extension's line counts if the extension is implemented, on a code reserved for extensions; a
standard extension's (AEN 1) also on a code that the base architecture reserves for future use, so that no extension redefines a base
instruction; instructions on privileged state stand on codes reserved for extensions (R133, R136, R202, R204, R273, R275, U14, C9;
log 31). -/
def recognised (c : Impl) (e : IsetEntry) : Bool :=
  match e.owner with
  | .base => !reservedForExtensions e.word && !extensionMechanism e.op
  | .extension aen aei =>
    implemented c aen aei &&
      (reservedForExtensions e.word || (aen == 1#64 && !usedByBase c e.word && !onPrivilegedState e.op))

/-! ### ISET.decode -/

/-- The recognised lines for a length and bits. More than one is a conflict of encodings, which "is outside the model" (R137, R202,
U18). -/
def isetLines (c : Impl) (w : InstrWord) : List IsetEntry := c.iset.filter fun e => e.word == w && recognised c e

/-- `ISET.decode(len, bits)`: the instruction of the one recognised line (R137, R163). -/
def isetDecode (c : Impl) (w : InstrWord) : Option Op :=
  match isetLines c w with
  | [e] => some e.op
  | _ => none

/-! ### Legal parameters -/

/-- A line of ISET is legal: the levels and the state it names exist; an instruction of the base architecture has level 0 or 1 (R163,
R300); a mandatory mechanism belongs to an extension of `AE_SET`, or of AEN 0 (R9, R10, R202). -/
def IsetEntry.wf (c : Impl) (e : IsetEntry) : Bool :=
  e.op.levelsWithin c.plMax && e.op.wf &&
  match e.owner with
  | .base => decide (e.op.privField ≤ 1) && !extensionMechanism e.op
  | .extension aen aei => !extensionMechanism e.op || implemented c aen aei

/-- No two recognised lines have one encoding (R202, U18). -/
def conflictFree (c : Impl) : Bool := decide ((c.iset.filter (recognised c)).map IsetEntry.word).Nodup

end Sys2Proof.Machine

namespace Sys2Proof

/-- The parameters lie in the ranges R10 allows, and ISET is one that R163, R202, R204 and R275 allow. -/
def Impl.wf (c : Impl) : Bool :=
  decide (1 ≤ c.nMem) && decide (c.nMem ≤ 128) && decide (1 ≤ c.nProc) && decide (c.nProc ≤ 128) &&
  decide (1 ≤ c.nAgent) && decide (c.nAgent ≤ 128) && decide (1 ≤ c.nProcs) && decide (1 ≤ c.nAgents) &&
  (c.agentBits.all fun p => 1 ≤ p.2 && p.2 ≤ c.nMem) && decide (1 ≤ c.plMax) && c.levels.wf c.plMax && c.ceid.wf && decide (c.avi.toNat ≤ 1) &&
  (c.iset.all fun e => Machine.IsetEntry.wf c e) && Machine.conflictFree c

end Sys2Proof
end

