-- ==== Sys2Proof/Machine/VectorElement.lean ====
section
/-! DEFINITION. Vector, element extraction and element deposition instructions (43_vector.md,
44_element_extract_deposit.md). -/

namespace Sys2Proof.Machine

open Sys2Proof

/-- The operation on two elements; `setElem` keeps its low e(T) bits, so it wraps around (R215, R233). -/
def vecOpOf (op : VecOp) (t : VecType) (x y : BitVec 64) : BitVec 64 :=
  match op with
  | .wrappingSum => x + y
  | .implementation k => Config.vectorElem k t x y

/-- A vector instruction: every element, no CR (R233); the second operand is read once, before the result is written
(R234), and no partial completion is visible (R235). -/
def vectorEffect (o : VectorClass) (s : State) : Effect :=
  ⟨s.writeReg o.dst.toReg
    (mapElems o.type (vecOpOf o.op o.type) (s.readReg o.a.toReg) (s.vecSource o.type o.b)), .next⟩

/-- The places of a vector instruction's second operand. -/
def vecSourcePlaces : VecSource → List Place
  | .vector r => regPlaces r.toReg
  | .scalarLow o | .scalarImplementation _ o => operandPlaces o

/-- What it consumes: both operands. -/
def vectorFlow (o : VectorClass) : Flow :=
  { used := regPlaces o.a.toReg ++ vecSourcePlaces o.b, results := regPlaces o.dst.toReg }

/-- VECTOR-CLASS (R233). -/
def execVector (o : VectorClass) (s : State) : Host.Outcome State Fault Refusal :=
  .next (s.attempt o.priv (vectorFlow o) (vectorEffect o))

/-- The extracted element, extended over the destination as ISET says, or the exception UNALIGNED ELEMENT SELECT (R240, R242). Where
the select names no element by number or offset, the element is a free value (log 13). -/
def elementExtractEffect (o : ElementExtract) (s : State) : Effect :=
  match selectElement o.form o.type o.src.width (s.value o.select) with
  | .element i =>
    ⟨s.fill o.dst o.type.elemBits ((elem (s.readReg o.src) o.type i).setWidth 128) o.ext, .next⟩
  | .unaligned => ⟨s, .exception .unalignedElementSelect (s.impl.levelOf s.opl .unalignedElementSelect)⟩
  | .other =>
    ⟨s.fill o.dst o.type.elemBits ((Config.extracted o.form o.type (s.readReg o.src) (s.value o.select)).setWidth 128) o.ext,
      .next⟩

/-- What it consumes: the source, the select, and the old contents where they are kept. -/
def elementExtractFlow (o : ElementExtract) : Flow :=
  { used := regPlaces o.src ++ operandPlaces o.select ++ keptPlaces o.ext o.dst, raises := operandPlaces o.select
    results := regPlaces o.dst }

/-- ELEMENT-EXTRACT-CLASS (R240). -/
def execElementExtract (o : ElementExtract) (s : State) : Host.Outcome State Fault Refusal :=
  .next (s.attempt o.priv (elementExtractFlow o) (elementExtractEffect o))

/-- The destination with one element replaced, or the exception UNALIGNED ELEMENT SELECT (R241, R242). -/
def elementDepositEffect (o : ElementDeposit) (s : State) : Effect :=
  match selectElement o.form o.type o.dst.width (s.value o.select) with
  | .element i =>
    ⟨s.writeReg o.dst (setElem (s.readReg o.dst) o.type i ((s.value o.value).setWidth 64)), .next⟩
  | .unaligned => ⟨s, .exception .unalignedElementSelect (s.impl.levelOf s.opl .unalignedElementSelect)⟩
  | .other =>
    ⟨s.writeReg o.dst (Config.deposited o.form o.type (s.readReg o.dst) (s.value o.select) (s.value o.value)), .next⟩

/-- What it consumes: the value, the select, and the other elements of the destination. -/
def elementDepositFlow (o : ElementDeposit) : Flow :=
  { used := regPlaces o.dst ++ operandPlaces o.value ++ operandPlaces o.select, raises := operandPlaces o.select
    results := regPlaces o.dst }

/-- ELEMENT-DEPOSIT-CLASS (R241). -/
def execElementDeposit (o : ElementDeposit) (s : State) : Host.Outcome State Fault Refusal :=
  .next (s.attempt o.priv (elementDepositFlow o) (elementDepositEffect o))

end Sys2Proof.Machine
end

