-- ==== Sys2Proof/Machine/InstructionWords.lean ====
section
/-! DEFINITION. What the instructions of ISET do (R163), steps 7 to 9 of R165, and the meanings of
the 32 rows of (length, primary operation code) of R133. -/

namespace Sys2Proof.Machine

open Sys2Proof

/-! ### ISET.priv and ISET.exec -/

/-- `ISET.priv` (R163): what the table says, the highest level for sending interrupts (R273), the level of the state for the
operations on privileged state (R275), and at least those in a composite instruction that does any of it. -/
def isetPriv (c : Impl) (op : Op) : Nat :=
  match op with
  | .sendInterrupt _ => c.plMax
  | .privilegedState o => privLevel o.op
  | .composite o => o.level c.plMax
  | _ => op.privField

/-- `ISET.exec` (R163). -/
def isetExec : Op → State → Effect
  | .aviObtain o => aviObtainEffect o
  | .aeQuery o => aeQueryEffect o
  | .integerCarry o => integerCarryEffect o
  | .vector o => vectorEffect o
  | .elementExtract o => elementExtractEffect o
  | .elementDeposit o => elementDepositEffect o
  | .loadWordAddressed o => loadWordEffect o
  | .storeWordAddressed o => storeWordEffect o
  | .loadOctetAddressed o => loadOctetEffect o
  | .storeOctetAddressed o => storeOctetEffect o
  | .memoryBarrier o => memoryBarrierEffect o
  | .storeAtomic o => storeAtomicEffect o
  | .controlFlow o => controlFlowEffect o
  | .internalInterrupt o => internalInterruptEffect o
  | .sendInterrupt o => sendInterruptEffect o
  | .null o => nullEffect o
  | .privilegedState o => privilegedEffect o
  | .scalar o => scalarEffect o
  | .composite o => compositeEffect o

/-- What an instruction of ISET consumes and produces (R101). -/
def isetFlow : Op → Flow
  | .aviObtain o => aviObtainFlow o
  | .aeQuery o => aeQueryFlow o
  | .integerCarry o => integerCarryFlow o
  | .vector o => vectorFlow o
  | .elementExtract o => elementExtractFlow o
  | .elementDeposit o => elementDepositFlow o
  | .loadWordAddressed o => loadWordFlow o
  | .storeWordAddressed o => storeWordFlow o
  | .loadOctetAddressed o => loadOctetFlow o
  | .storeOctetAddressed o => storeOctetFlow o
  | .storeAtomic o => storeAtomicFlow o
  | .controlFlow o => controlFlowFlow o
  | .privilegedState o => privilegedFlow o
  | .scalar o => scalarFlow o
  | .composite _ => compositeFlow
  | .memoryBarrier _ | .internalInterrupt _ | .sendInterrupt _ | .null _ => {}

/-- Steps 7 to 9 of R165 for an instruction word: INVALID INSTRUCTION if it is unrecognised (R172), else the privilege check
(R173) and the instruction. Two recognised lines for one word are outside the model (R202, U18). -/
def perform (w : InstrWord) (s : State) : Host.Outcome State Fault Refusal :=
  match isetLines s.impl w with
  | [] => .next (s.raise .invalidInstruction)
  | [e] => .next (s.attempt (isetPriv s.impl e.op) (isetFlow e.op) (isetExec e.op))
  | _ :: _ :: _ => .refused .conflictingEncodings

/-! ### The rows -/

/-- I30-POPC0 (R133, base architecture). -/
def execI30Popc0 (rest : BitVec 27) (s : State) : Host.Outcome State Fault Refusal :=
  perform (.w30 (rest ++ 0#3)) s

/-- I30-POPC1 (R133, base architecture). -/
def execI30Popc1 (rest : BitVec 27) (s : State) : Host.Outcome State Fault Refusal :=
  perform (.w30 (rest ++ 1#3)) s

/-- I30-POPC2 (R133, base architecture). -/
def execI30Popc2 (rest : BitVec 27) (s : State) : Host.Outcome State Fault Refusal :=
  perform (.w30 (rest ++ 2#3)) s

/-- I30-POPC3 (R133, base architecture). -/
def execI30Popc3 (rest : BitVec 27) (s : State) : Host.Outcome State Fault Refusal :=
  perform (.w30 (rest ++ 3#3)) s

/-- I30-POPC4 (R133, base architecture). -/
def execI30Popc4 (rest : BitVec 27) (s : State) : Host.Outcome State Fault Refusal :=
  perform (.w30 (rest ++ 4#3)) s

/-- I30-POPC5 (R133, architecture extensions). -/
def execI30Popc5 (rest : BitVec 27) (s : State) : Host.Outcome State Fault Refusal :=
  perform (.w30 (rest ++ 5#3)) s

/-- I30-POPC6 (R133, architecture extensions). -/
def execI30Popc6 (rest : BitVec 27) (s : State) : Host.Outcome State Fault Refusal :=
  perform (.w30 (rest ++ 6#3)) s

/-- I30-POPC7 (R133, architecture extensions). -/
def execI30Popc7 (rest : BitVec 27) (s : State) : Host.Outcome State Fault Refusal :=
  perform (.w30 (rest ++ 7#3)) s

/-- I40-POPC0 (R133, base architecture). -/
def execI40Popc0 (rest : BitVec 37) (s : State) : Host.Outcome State Fault Refusal :=
  perform (.w40 (rest ++ 0#3)) s

/-- I40-POPC1 (R133, base architecture). -/
def execI40Popc1 (rest : BitVec 37) (s : State) : Host.Outcome State Fault Refusal :=
  perform (.w40 (rest ++ 1#3)) s

/-- I40-POPC2 (R133, base architecture). -/
def execI40Popc2 (rest : BitVec 37) (s : State) : Host.Outcome State Fault Refusal :=
  perform (.w40 (rest ++ 2#3)) s

/-- I40-POPC3 (R133, base architecture). -/
def execI40Popc3 (rest : BitVec 37) (s : State) : Host.Outcome State Fault Refusal :=
  perform (.w40 (rest ++ 3#3)) s

/-- I40-POPC4 (R133, base architecture). -/
def execI40Popc4 (rest : BitVec 37) (s : State) : Host.Outcome State Fault Refusal :=
  perform (.w40 (rest ++ 4#3)) s

/-- I40-POPC5 (R133, architecture extensions). -/
def execI40Popc5 (rest : BitVec 37) (s : State) : Host.Outcome State Fault Refusal :=
  perform (.w40 (rest ++ 5#3)) s

/-- I40-POPC6 (R133, architecture extensions). -/
def execI40Popc6 (rest : BitVec 37) (s : State) : Host.Outcome State Fault Refusal :=
  perform (.w40 (rest ++ 6#3)) s

/-- I40-POPC7 (R133, architecture extensions). -/
def execI40Popc7 (rest : BitVec 37) (s : State) : Host.Outcome State Fault Refusal :=
  perform (.w40 (rest ++ 7#3)) s

/-- I50-POPC0 (R133, base architecture). -/
def execI50Popc0 (rest : BitVec 47) (s : State) : Host.Outcome State Fault Refusal :=
  perform (.w50 (rest ++ 0#3)) s

/-- I50-POPC1 (R133, base architecture). -/
def execI50Popc1 (rest : BitVec 47) (s : State) : Host.Outcome State Fault Refusal :=
  perform (.w50 (rest ++ 1#3)) s

/-- I50-POPC2 (R133, base architecture). -/
def execI50Popc2 (rest : BitVec 47) (s : State) : Host.Outcome State Fault Refusal :=
  perform (.w50 (rest ++ 2#3)) s

/-- I50-POPC3 (R133, base architecture). -/
def execI50Popc3 (rest : BitVec 47) (s : State) : Host.Outcome State Fault Refusal :=
  perform (.w50 (rest ++ 3#3)) s

/-- I50-POPC4 (R133, architecture extensions). -/
def execI50Popc4 (rest : BitVec 47) (s : State) : Host.Outcome State Fault Refusal :=
  perform (.w50 (rest ++ 4#3)) s

/-- I50-POPC5 (R133, architecture extensions). -/
def execI50Popc5 (rest : BitVec 47) (s : State) : Host.Outcome State Fault Refusal :=
  perform (.w50 (rest ++ 5#3)) s

/-- I50-POPC6 (R133, architecture extensions). -/
def execI50Popc6 (rest : BitVec 47) (s : State) : Host.Outcome State Fault Refusal :=
  perform (.w50 (rest ++ 6#3)) s

/-- I50-POPC7 (R133, architecture extensions). -/
def execI50Popc7 (rest : BitVec 47) (s : State) : Host.Outcome State Fault Refusal :=
  perform (.w50 (rest ++ 7#3)) s

/-- I60-POPC0 (R133, base architecture). -/
def execI60Popc0 (rest : BitVec 57) (s : State) : Host.Outcome State Fault Refusal :=
  perform (.w60 (rest ++ 0#3)) s

/-- I60-POPC1 (R133, base architecture). -/
def execI60Popc1 (rest : BitVec 57) (s : State) : Host.Outcome State Fault Refusal :=
  perform (.w60 (rest ++ 1#3)) s

/-- I60-POPC2 (R133, base architecture). -/
def execI60Popc2 (rest : BitVec 57) (s : State) : Host.Outcome State Fault Refusal :=
  perform (.w60 (rest ++ 2#3)) s

/-- I60-POPC3 (R133, base architecture). -/
def execI60Popc3 (rest : BitVec 57) (s : State) : Host.Outcome State Fault Refusal :=
  perform (.w60 (rest ++ 3#3)) s

/-- I60-POPC4 (R133, architecture extensions). -/
def execI60Popc4 (rest : BitVec 57) (s : State) : Host.Outcome State Fault Refusal :=
  perform (.w60 (rest ++ 4#3)) s

/-- I60-POPC5 (R133, architecture extensions). -/
def execI60Popc5 (rest : BitVec 57) (s : State) : Host.Outcome State Fault Refusal :=
  perform (.w60 (rest ++ 5#3)) s

/-- I60-POPC6 (R133, architecture extensions). -/
def execI60Popc6 (rest : BitVec 57) (s : State) : Host.Outcome State Fault Refusal :=
  perform (.w60 (rest ++ 6#3)) s

/-- I60-POPC7 (R133, architecture extensions). -/
def execI60Popc7 (rest : BitVec 57) (s : State) : Host.Outcome State Fault Refusal :=
  perform (.w60 (rest ++ 7#3)) s

end Sys2Proof.Machine
end

