-- ==== Sys2Proof/Machine/Packages.lean ====
section
/-! DEFINITION. Steps 3 to 9 of R165 for a package whose sub-fields are known, and the meanings of the 157 package formats. -/

namespace Sys2Proof.Machine

open Sys2Proof

/-- The agreement check on sequential entry, waived after a transfer of control (R169, R171). -/
def entryAgrees (e : Entry) (t : PartLen) : Bool :=
  match e with
  | .transfer => true
  | .sequential l => agree l t

/-- Step 6 of R165 for a leading part: the package at the next word address is fetched and its trailing part completes the
instruction, or INVALID SPANNED INSTRUCTION is raised, IPMAR and IIDX still naming the spanned instruction (R129, R170). -/
def runSpanned (p : Package) (s : State) : Host.Outcome State Fault Refusal :=
  let f := s.fetch (s.ipmar + 1#128)
  match joinParts p.lead (trailOf f.1) with
  | none => .next (f.2.raise .invalidSpannedInstruction)
  | some w => perform w (f.2.setShape p.shape)

/-- Steps 3 to 9 of R165: agreement with the package before, the Zero sub-field (R168), the instruction IIDX names (R128; none:
R178), and that instruction. -/
def runPackage (p : Package) (s : State) : Host.Outcome State Fault Refusal :=
  if !entryAgrees s.entry p.trail.len then .next (s.raise .invalidSpannedInstruction)
  else if !p.zero.isZero then .next (s.raise .invalidInstructionPackage)
  else
    match p.slot s.iidx.val with
    | none => .refused .noInstructionAtIndex
    | some (.whole w) => perform w (s.setShape p.shape)
    | some (.leading _) => runSpanned p s

/-- PKG-0 (R126). -/
def execPkg0 (t : BitVec 10) (i0 : BitVec 30) (i1 : BitVec 30) (i2 : BitVec 30) (z : BitVec 20) (s : State) :
    Host.Outcome State Fault Refusal :=
  runPackage ⟨.p10 t, [.w30 i0, .w30 i1, .w30 i2], .none, .z20 z⟩ s

/-- PKG-1 (R126). -/
def execPkg1 (t : BitVec 10) (i0 : BitVec 30) (i1 : BitVec 30) (i2 : BitVec 30) (i3L : BitVec 20) (s : State) :
    Host.Outcome State Fault Refusal :=
  runPackage ⟨.p10 t, [.w30 i0, .w30 i1, .w30 i2], .p20 i3L, .none⟩ s

/-- PKG-2 (R126). -/
def execPkg2 (t : BitVec 10) (i0 : BitVec 30) (i1 : BitVec 30) (i2 : BitVec 40) (z : BitVec 10) (s : State) :
    Host.Outcome State Fault Refusal :=
  runPackage ⟨.p10 t, [.w30 i0, .w30 i1, .w40 i2], .none, .z10 z⟩ s

/-- PKG-3 (R126). -/
def execPkg3 (t : BitVec 10) (i0 : BitVec 30) (i1 : BitVec 30) (i2 : BitVec 40) (i3L : BitVec 10) (s : State) :
    Host.Outcome State Fault Refusal :=
  runPackage ⟨.p10 t, [.w30 i0, .w30 i1, .w40 i2], .p10 i3L, .none⟩ s

/-- PKG-4 (R126). -/
def execPkg4 (t : BitVec 10) (i0 : BitVec 30) (i1 : BitVec 30) (i2 : BitVec 50) (s : State) :
    Host.Outcome State Fault Refusal :=
  runPackage ⟨.p10 t, [.w30 i0, .w30 i1, .w50 i2], .none, .none⟩ s

/-- PKG-5 (R126). -/
def execPkg5 (t : BitVec 10) (i0 : BitVec 30) (i1 : BitVec 30) (i2L : BitVec 50) (s : State) :
    Host.Outcome State Fault Refusal :=
  runPackage ⟨.p10 t, [.w30 i0, .w30 i1], .p50 i2L, .none⟩ s

/-- PKG-6 (R126). -/
def execPkg6 (t : BitVec 10) (i0 : BitVec 30) (i1 : BitVec 40) (i2 : BitVec 30) (z : BitVec 10) (s : State) :
    Host.Outcome State Fault Refusal :=
  runPackage ⟨.p10 t, [.w30 i0, .w40 i1, .w30 i2], .none, .z10 z⟩ s

/-- PKG-7 (R126). -/
def execPkg7 (t : BitVec 10) (i0 : BitVec 30) (i1 : BitVec 40) (i2 : BitVec 30) (i3L : BitVec 10) (s : State) :
    Host.Outcome State Fault Refusal :=
  runPackage ⟨.p10 t, [.w30 i0, .w40 i1, .w30 i2], .p10 i3L, .none⟩ s

/-- PKG-8 (R126). -/
def execPkg8 (t : BitVec 10) (i0 : BitVec 30) (i1 : BitVec 40) (i2 : BitVec 40) (s : State) :
    Host.Outcome State Fault Refusal :=
  runPackage ⟨.p10 t, [.w30 i0, .w40 i1, .w40 i2], .none, .none⟩ s

/-- PKG-9 (R126). -/
def execPkg9 (t : BitVec 10) (i0 : BitVec 30) (i1 : BitVec 40) (i2L : BitVec 40) (s : State) :
    Host.Outcome State Fault Refusal :=
  runPackage ⟨.p10 t, [.w30 i0, .w40 i1], .p40 i2L, .none⟩ s

/-- PKG-10 (R126). -/
def execPkg10 (t : BitVec 10) (i0 : BitVec 30) (i1 : BitVec 50) (i2 : BitVec 30) (s : State) :
    Host.Outcome State Fault Refusal :=
  runPackage ⟨.p10 t, [.w30 i0, .w50 i1, .w30 i2], .none, .none⟩ s

/-- PKG-11 (R126). -/
def execPkg11 (t : BitVec 10) (i0 : BitVec 30) (i1 : BitVec 50) (i2L : BitVec 30) (s : State) :
    Host.Outcome State Fault Refusal :=
  runPackage ⟨.p10 t, [.w30 i0, .w50 i1], .p30 i2L, .none⟩ s

/-- PKG-12 (R126). -/
def execPkg12 (t : BitVec 10) (i0 : BitVec 30) (i1 : BitVec 60) (z : BitVec 20) (s : State) :
    Host.Outcome State Fault Refusal :=
  runPackage ⟨.p10 t, [.w30 i0, .w60 i1], .none, .z20 z⟩ s

/-- PKG-13 (R126). -/
def execPkg13 (t : BitVec 10) (i0 : BitVec 30) (i1 : BitVec 60) (i2L : BitVec 20) (s : State) :
    Host.Outcome State Fault Refusal :=
  runPackage ⟨.p10 t, [.w30 i0, .w60 i1], .p20 i2L, .none⟩ s

/-- PKG-14 (R126). -/
def execPkg14 (t : BitVec 10) (i0 : BitVec 40) (i1 : BitVec 30) (i2 : BitVec 30) (z : BitVec 10) (s : State) :
    Host.Outcome State Fault Refusal :=
  runPackage ⟨.p10 t, [.w40 i0, .w30 i1, .w30 i2], .none, .z10 z⟩ s

/-- PKG-15 (R126). -/
def execPkg15 (t : BitVec 10) (i0 : BitVec 40) (i1 : BitVec 30) (i2 : BitVec 30) (i3L : BitVec 10) (s : State) :
    Host.Outcome State Fault Refusal :=
  runPackage ⟨.p10 t, [.w40 i0, .w30 i1, .w30 i2], .p10 i3L, .none⟩ s

/-- PKG-16 (R126). -/
def execPkg16 (t : BitVec 10) (i0 : BitVec 40) (i1 : BitVec 30) (i2 : BitVec 40) (s : State) :
    Host.Outcome State Fault Refusal :=
  runPackage ⟨.p10 t, [.w40 i0, .w30 i1, .w40 i2], .none, .none⟩ s

/-- PKG-17 (R126). -/
def execPkg17 (t : BitVec 10) (i0 : BitVec 40) (i1 : BitVec 30) (i2L : BitVec 40) (s : State) :
    Host.Outcome State Fault Refusal :=
  runPackage ⟨.p10 t, [.w40 i0, .w30 i1], .p40 i2L, .none⟩ s

/-- PKG-18 (R126). -/
def execPkg18 (t : BitVec 10) (i0 : BitVec 40) (i1 : BitVec 40) (i2 : BitVec 30) (s : State) :
    Host.Outcome State Fault Refusal :=
  runPackage ⟨.p10 t, [.w40 i0, .w40 i1, .w30 i2], .none, .none⟩ s

/-- PKG-19 (R126). -/
def execPkg19 (t : BitVec 10) (i0 : BitVec 40) (i1 : BitVec 40) (i2L : BitVec 30) (s : State) :
    Host.Outcome State Fault Refusal :=
  runPackage ⟨.p10 t, [.w40 i0, .w40 i1], .p30 i2L, .none⟩ s

/-- PKG-20 (R126). -/
def execPkg20 (t : BitVec 10) (i0 : BitVec 40) (i1 : BitVec 50) (z : BitVec 20) (s : State) :
    Host.Outcome State Fault Refusal :=
  runPackage ⟨.p10 t, [.w40 i0, .w50 i1], .none, .z20 z⟩ s

/-- PKG-21 (R126). -/
def execPkg21 (t : BitVec 10) (i0 : BitVec 40) (i1 : BitVec 50) (i2L : BitVec 20) (s : State) :
    Host.Outcome State Fault Refusal :=
  runPackage ⟨.p10 t, [.w40 i0, .w50 i1], .p20 i2L, .none⟩ s

/-- PKG-22 (R126). -/
def execPkg22 (t : BitVec 10) (i0 : BitVec 40) (i1 : BitVec 60) (z : BitVec 10) (s : State) :
    Host.Outcome State Fault Refusal :=
  runPackage ⟨.p10 t, [.w40 i0, .w60 i1], .none, .z10 z⟩ s

/-- PKG-23 (R126). -/
def execPkg23 (t : BitVec 10) (i0 : BitVec 40) (i1 : BitVec 60) (i2L : BitVec 10) (s : State) :
    Host.Outcome State Fault Refusal :=
  runPackage ⟨.p10 t, [.w40 i0, .w60 i1], .p10 i2L, .none⟩ s

/-- PKG-24 (R126). -/
def execPkg24 (t : BitVec 10) (i0 : BitVec 50) (i1 : BitVec 30) (i2 : BitVec 30) (s : State) :
    Host.Outcome State Fault Refusal :=
  runPackage ⟨.p10 t, [.w50 i0, .w30 i1, .w30 i2], .none, .none⟩ s

/-- PKG-25 (R126). -/
def execPkg25 (t : BitVec 10) (i0 : BitVec 50) (i1 : BitVec 30) (i2L : BitVec 30) (s : State) :
    Host.Outcome State Fault Refusal :=
  runPackage ⟨.p10 t, [.w50 i0, .w30 i1], .p30 i2L, .none⟩ s

/-- PKG-26 (R126). -/
def execPkg26 (t : BitVec 10) (i0 : BitVec 50) (i1 : BitVec 40) (z : BitVec 20) (s : State) :
    Host.Outcome State Fault Refusal :=
  runPackage ⟨.p10 t, [.w50 i0, .w40 i1], .none, .z20 z⟩ s

/-- PKG-27 (R126). -/
def execPkg27 (t : BitVec 10) (i0 : BitVec 50) (i1 : BitVec 40) (i2L : BitVec 20) (s : State) :
    Host.Outcome State Fault Refusal :=
  runPackage ⟨.p10 t, [.w50 i0, .w40 i1], .p20 i2L, .none⟩ s

/-- PKG-28 (R126). -/
def execPkg28 (t : BitVec 10) (i0 : BitVec 50) (i1 : BitVec 50) (z : BitVec 10) (s : State) :
    Host.Outcome State Fault Refusal :=
  runPackage ⟨.p10 t, [.w50 i0, .w50 i1], .none, .z10 z⟩ s

/-- PKG-29 (R126). -/
def execPkg29 (t : BitVec 10) (i0 : BitVec 50) (i1 : BitVec 50) (i2L : BitVec 10) (s : State) :
    Host.Outcome State Fault Refusal :=
  runPackage ⟨.p10 t, [.w50 i0, .w50 i1], .p10 i2L, .none⟩ s

/-- PKG-30 (R126). -/
def execPkg30 (t : BitVec 10) (i0 : BitVec 50) (i1 : BitVec 60) (s : State) :
    Host.Outcome State Fault Refusal :=
  runPackage ⟨.p10 t, [.w50 i0, .w60 i1], .none, .none⟩ s

/-- PKG-31 (R126). -/
def execPkg31 (t : BitVec 10) (i0 : BitVec 60) (i1 : BitVec 30) (z : BitVec 20) (s : State) :
    Host.Outcome State Fault Refusal :=
  runPackage ⟨.p10 t, [.w60 i0, .w30 i1], .none, .z20 z⟩ s

/-- PKG-32 (R126). -/
def execPkg32 (t : BitVec 10) (i0 : BitVec 60) (i1 : BitVec 30) (i2L : BitVec 20) (s : State) :
    Host.Outcome State Fault Refusal :=
  runPackage ⟨.p10 t, [.w60 i0, .w30 i1], .p20 i2L, .none⟩ s

/-- PKG-33 (R126). -/
def execPkg33 (t : BitVec 10) (i0 : BitVec 60) (i1 : BitVec 40) (z : BitVec 10) (s : State) :
    Host.Outcome State Fault Refusal :=
  runPackage ⟨.p10 t, [.w60 i0, .w40 i1], .none, .z10 z⟩ s

/-- PKG-34 (R126). -/
def execPkg34 (t : BitVec 10) (i0 : BitVec 60) (i1 : BitVec 40) (i2L : BitVec 10) (s : State) :
    Host.Outcome State Fault Refusal :=
  runPackage ⟨.p10 t, [.w60 i0, .w40 i1], .p10 i2L, .none⟩ s

/-- PKG-35 (R126). -/
def execPkg35 (t : BitVec 10) (i0 : BitVec 60) (i1 : BitVec 50) (s : State) :
    Host.Outcome State Fault Refusal :=
  runPackage ⟨.p10 t, [.w60 i0, .w50 i1], .none, .none⟩ s

/-- PKG-36 (R126). -/
def execPkg36 (t : BitVec 10) (i0 : BitVec 60) (i1L : BitVec 50) (s : State) :
    Host.Outcome State Fault Refusal :=
  runPackage ⟨.p10 t, [.w60 i0], .p50 i1L, .none⟩ s

/-- PKG-37 (R126). -/
def execPkg37 (t : BitVec 20) (i0 : BitVec 30) (i1 : BitVec 30) (i2 : BitVec 30) (z : BitVec 10) (s : State) :
    Host.Outcome State Fault Refusal :=
  runPackage ⟨.p20 t, [.w30 i0, .w30 i1, .w30 i2], .none, .z10 z⟩ s

/-- PKG-38 (R126). -/
def execPkg38 (t : BitVec 20) (i0 : BitVec 30) (i1 : BitVec 30) (i2 : BitVec 30) (i3L : BitVec 10) (s : State) :
    Host.Outcome State Fault Refusal :=
  runPackage ⟨.p20 t, [.w30 i0, .w30 i1, .w30 i2], .p10 i3L, .none⟩ s

/-- PKG-39 (R126). -/
def execPkg39 (t : BitVec 20) (i0 : BitVec 30) (i1 : BitVec 30) (i2 : BitVec 40) (s : State) :
    Host.Outcome State Fault Refusal :=
  runPackage ⟨.p20 t, [.w30 i0, .w30 i1, .w40 i2], .none, .none⟩ s

/-- PKG-40 (R126). -/
def execPkg40 (t : BitVec 20) (i0 : BitVec 30) (i1 : BitVec 30) (i2L : BitVec 40) (s : State) :
    Host.Outcome State Fault Refusal :=
  runPackage ⟨.p20 t, [.w30 i0, .w30 i1], .p40 i2L, .none⟩ s

/-- PKG-41 (R126). -/
def execPkg41 (t : BitVec 20) (i0 : BitVec 30) (i1 : BitVec 40) (i2 : BitVec 30) (s : State) :
    Host.Outcome State Fault Refusal :=
  runPackage ⟨.p20 t, [.w30 i0, .w40 i1, .w30 i2], .none, .none⟩ s

/-- PKG-42 (R126). -/
def execPkg42 (t : BitVec 20) (i0 : BitVec 30) (i1 : BitVec 40) (i2L : BitVec 30) (s : State) :
    Host.Outcome State Fault Refusal :=
  runPackage ⟨.p20 t, [.w30 i0, .w40 i1], .p30 i2L, .none⟩ s

/-- PKG-43 (R126). -/
def execPkg43 (t : BitVec 20) (i0 : BitVec 30) (i1 : BitVec 50) (z : BitVec 20) (s : State) :
    Host.Outcome State Fault Refusal :=
  runPackage ⟨.p20 t, [.w30 i0, .w50 i1], .none, .z20 z⟩ s

/-- PKG-44 (R126). -/
def execPkg44 (t : BitVec 20) (i0 : BitVec 30) (i1 : BitVec 50) (i2L : BitVec 20) (s : State) :
    Host.Outcome State Fault Refusal :=
  runPackage ⟨.p20 t, [.w30 i0, .w50 i1], .p20 i2L, .none⟩ s

/-- PKG-45 (R126). -/
def execPkg45 (t : BitVec 20) (i0 : BitVec 30) (i1 : BitVec 60) (z : BitVec 10) (s : State) :
    Host.Outcome State Fault Refusal :=
  runPackage ⟨.p20 t, [.w30 i0, .w60 i1], .none, .z10 z⟩ s

/-- PKG-46 (R126). -/
def execPkg46 (t : BitVec 20) (i0 : BitVec 30) (i1 : BitVec 60) (i2L : BitVec 10) (s : State) :
    Host.Outcome State Fault Refusal :=
  runPackage ⟨.p20 t, [.w30 i0, .w60 i1], .p10 i2L, .none⟩ s

/-- PKG-47 (R126). -/
def execPkg47 (t : BitVec 20) (i0 : BitVec 40) (i1 : BitVec 30) (i2 : BitVec 30) (s : State) :
    Host.Outcome State Fault Refusal :=
  runPackage ⟨.p20 t, [.w40 i0, .w30 i1, .w30 i2], .none, .none⟩ s

/-- PKG-48 (R126). -/
def execPkg48 (t : BitVec 20) (i0 : BitVec 40) (i1 : BitVec 30) (i2L : BitVec 30) (s : State) :
    Host.Outcome State Fault Refusal :=
  runPackage ⟨.p20 t, [.w40 i0, .w30 i1], .p30 i2L, .none⟩ s

/-- PKG-49 (R126). -/
def execPkg49 (t : BitVec 20) (i0 : BitVec 40) (i1 : BitVec 40) (z : BitVec 20) (s : State) :
    Host.Outcome State Fault Refusal :=
  runPackage ⟨.p20 t, [.w40 i0, .w40 i1], .none, .z20 z⟩ s

/-- PKG-50 (R126). -/
def execPkg50 (t : BitVec 20) (i0 : BitVec 40) (i1 : BitVec 40) (i2L : BitVec 20) (s : State) :
    Host.Outcome State Fault Refusal :=
  runPackage ⟨.p20 t, [.w40 i0, .w40 i1], .p20 i2L, .none⟩ s

/-- PKG-51 (R126). -/
def execPkg51 (t : BitVec 20) (i0 : BitVec 40) (i1 : BitVec 50) (z : BitVec 10) (s : State) :
    Host.Outcome State Fault Refusal :=
  runPackage ⟨.p20 t, [.w40 i0, .w50 i1], .none, .z10 z⟩ s

/-- PKG-52 (R126). -/
def execPkg52 (t : BitVec 20) (i0 : BitVec 40) (i1 : BitVec 50) (i2L : BitVec 10) (s : State) :
    Host.Outcome State Fault Refusal :=
  runPackage ⟨.p20 t, [.w40 i0, .w50 i1], .p10 i2L, .none⟩ s

/-- PKG-53 (R126). -/
def execPkg53 (t : BitVec 20) (i0 : BitVec 40) (i1 : BitVec 60) (s : State) :
    Host.Outcome State Fault Refusal :=
  runPackage ⟨.p20 t, [.w40 i0, .w60 i1], .none, .none⟩ s

/-- PKG-54 (R126). -/
def execPkg54 (t : BitVec 20) (i0 : BitVec 50) (i1 : BitVec 30) (z : BitVec 20) (s : State) :
    Host.Outcome State Fault Refusal :=
  runPackage ⟨.p20 t, [.w50 i0, .w30 i1], .none, .z20 z⟩ s

/-- PKG-55 (R126). -/
def execPkg55 (t : BitVec 20) (i0 : BitVec 50) (i1 : BitVec 30) (i2L : BitVec 20) (s : State) :
    Host.Outcome State Fault Refusal :=
  runPackage ⟨.p20 t, [.w50 i0, .w30 i1], .p20 i2L, .none⟩ s

/-- PKG-56 (R126). -/
def execPkg56 (t : BitVec 20) (i0 : BitVec 50) (i1 : BitVec 40) (z : BitVec 10) (s : State) :
    Host.Outcome State Fault Refusal :=
  runPackage ⟨.p20 t, [.w50 i0, .w40 i1], .none, .z10 z⟩ s

/-- PKG-57 (R126). -/
def execPkg57 (t : BitVec 20) (i0 : BitVec 50) (i1 : BitVec 40) (i2L : BitVec 10) (s : State) :
    Host.Outcome State Fault Refusal :=
  runPackage ⟨.p20 t, [.w50 i0, .w40 i1], .p10 i2L, .none⟩ s

/-- PKG-58 (R126). -/
def execPkg58 (t : BitVec 20) (i0 : BitVec 50) (i1 : BitVec 50) (s : State) :
    Host.Outcome State Fault Refusal :=
  runPackage ⟨.p20 t, [.w50 i0, .w50 i1], .none, .none⟩ s

/-- PKG-59 (R126). -/
def execPkg59 (t : BitVec 20) (i0 : BitVec 50) (i1L : BitVec 50) (s : State) :
    Host.Outcome State Fault Refusal :=
  runPackage ⟨.p20 t, [.w50 i0], .p50 i1L, .none⟩ s

/-- PKG-60 (R126). -/
def execPkg60 (t : BitVec 20) (i0 : BitVec 60) (i1 : BitVec 30) (z : BitVec 10) (s : State) :
    Host.Outcome State Fault Refusal :=
  runPackage ⟨.p20 t, [.w60 i0, .w30 i1], .none, .z10 z⟩ s

/-- PKG-61 (R126). -/
def execPkg61 (t : BitVec 20) (i0 : BitVec 60) (i1 : BitVec 30) (i2L : BitVec 10) (s : State) :
    Host.Outcome State Fault Refusal :=
  runPackage ⟨.p20 t, [.w60 i0, .w30 i1], .p10 i2L, .none⟩ s

/-- PKG-62 (R126). -/
def execPkg62 (t : BitVec 20) (i0 : BitVec 60) (i1 : BitVec 40) (s : State) :
    Host.Outcome State Fault Refusal :=
  runPackage ⟨.p20 t, [.w60 i0, .w40 i1], .none, .none⟩ s

/-- PKG-63 (R126). -/
def execPkg63 (t : BitVec 20) (i0 : BitVec 60) (i1L : BitVec 40) (s : State) :
    Host.Outcome State Fault Refusal :=
  runPackage ⟨.p20 t, [.w60 i0], .p40 i1L, .none⟩ s

/-- PKG-64 (R126). -/
def execPkg64 (t : BitVec 30) (i0 : BitVec 30) (i1 : BitVec 30) (i2 : BitVec 30) (s : State) :
    Host.Outcome State Fault Refusal :=
  runPackage ⟨.p30 t, [.w30 i0, .w30 i1, .w30 i2], .none, .none⟩ s

/-- PKG-65 (R126). -/
def execPkg65 (t : BitVec 30) (i0 : BitVec 30) (i1 : BitVec 30) (i2L : BitVec 30) (s : State) :
    Host.Outcome State Fault Refusal :=
  runPackage ⟨.p30 t, [.w30 i0, .w30 i1], .p30 i2L, .none⟩ s

/-- PKG-66 (R126). -/
def execPkg66 (i0 : BitVec 30) (i1 : BitVec 30) (i2 : BitVec 30) (i3 : BitVec 30) (s : State) :
    Host.Outcome State Fault Refusal :=
  runPackage ⟨.none, [.w30 i0, .w30 i1, .w30 i2, .w30 i3], .none, .none⟩ s

/-- PKG-67 (R126). -/
def execPkg67 (i0 : BitVec 30) (i1 : BitVec 30) (i2 : BitVec 30) (i3L : BitVec 30) (s : State) :
    Host.Outcome State Fault Refusal :=
  runPackage ⟨.none, [.w30 i0, .w30 i1, .w30 i2], .p30 i3L, .none⟩ s

/-- PKG-68 (R126). -/
def execPkg68 (t : BitVec 30) (i0 : BitVec 30) (i1 : BitVec 40) (z : BitVec 20) (s : State) :
    Host.Outcome State Fault Refusal :=
  runPackage ⟨.p30 t, [.w30 i0, .w40 i1], .none, .z20 z⟩ s

/-- PKG-69 (R126). -/
def execPkg69 (t : BitVec 30) (i0 : BitVec 30) (i1 : BitVec 40) (i2L : BitVec 20) (s : State) :
    Host.Outcome State Fault Refusal :=
  runPackage ⟨.p30 t, [.w30 i0, .w40 i1], .p20 i2L, .none⟩ s

/-- PKG-70 (R126). -/
def execPkg70 (i0 : BitVec 30) (i1 : BitVec 30) (i2 : BitVec 40) (z : BitVec 20) (s : State) :
    Host.Outcome State Fault Refusal :=
  runPackage ⟨.none, [.w30 i0, .w30 i1, .w40 i2], .none, .z20 z⟩ s

/-- PKG-71 (R126). -/
def execPkg71 (i0 : BitVec 30) (i1 : BitVec 30) (i2 : BitVec 40) (i3L : BitVec 20) (s : State) :
    Host.Outcome State Fault Refusal :=
  runPackage ⟨.none, [.w30 i0, .w30 i1, .w40 i2], .p20 i3L, .none⟩ s

/-- PKG-72 (R126). -/
def execPkg72 (t : BitVec 30) (i0 : BitVec 30) (i1 : BitVec 50) (z : BitVec 10) (s : State) :
    Host.Outcome State Fault Refusal :=
  runPackage ⟨.p30 t, [.w30 i0, .w50 i1], .none, .z10 z⟩ s

/-- PKG-73 (R126). -/
def execPkg73 (t : BitVec 30) (i0 : BitVec 30) (i1 : BitVec 50) (i2L : BitVec 10) (s : State) :
    Host.Outcome State Fault Refusal :=
  runPackage ⟨.p30 t, [.w30 i0, .w50 i1], .p10 i2L, .none⟩ s

/-- PKG-74 (R126). -/
def execPkg74 (i0 : BitVec 30) (i1 : BitVec 30) (i2 : BitVec 50) (z : BitVec 10) (s : State) :
    Host.Outcome State Fault Refusal :=
  runPackage ⟨.none, [.w30 i0, .w30 i1, .w50 i2], .none, .z10 z⟩ s

/-- PKG-75 (R126). -/
def execPkg75 (i0 : BitVec 30) (i1 : BitVec 30) (i2 : BitVec 50) (i3L : BitVec 10) (s : State) :
    Host.Outcome State Fault Refusal :=
  runPackage ⟨.none, [.w30 i0, .w30 i1, .w50 i2], .p10 i3L, .none⟩ s

/-- PKG-76 (R126). -/
def execPkg76 (t : BitVec 30) (i0 : BitVec 30) (i1 : BitVec 60) (s : State) :
    Host.Outcome State Fault Refusal :=
  runPackage ⟨.p30 t, [.w30 i0, .w60 i1], .none, .none⟩ s

/-- PKG-77 (R126). -/
def execPkg77 (i0 : BitVec 30) (i1 : BitVec 30) (i2 : BitVec 60) (s : State) :
    Host.Outcome State Fault Refusal :=
  runPackage ⟨.none, [.w30 i0, .w30 i1, .w60 i2], .none, .none⟩ s

/-- PKG-78 (R126). -/
def execPkg78 (t : BitVec 30) (i0 : BitVec 40) (i1 : BitVec 30) (z : BitVec 20) (s : State) :
    Host.Outcome State Fault Refusal :=
  runPackage ⟨.p30 t, [.w40 i0, .w30 i1], .none, .z20 z⟩ s

/-- PKG-79 (R126). -/
def execPkg79 (t : BitVec 30) (i0 : BitVec 40) (i1 : BitVec 30) (i2L : BitVec 20) (s : State) :
    Host.Outcome State Fault Refusal :=
  runPackage ⟨.p30 t, [.w40 i0, .w30 i1], .p20 i2L, .none⟩ s

/-- PKG-80 (R126). -/
def execPkg80 (i0 : BitVec 30) (i1 : BitVec 40) (i2 : BitVec 30) (z : BitVec 20) (s : State) :
    Host.Outcome State Fault Refusal :=
  runPackage ⟨.none, [.w30 i0, .w40 i1, .w30 i2], .none, .z20 z⟩ s

/-- PKG-81 (R126). -/
def execPkg81 (i0 : BitVec 30) (i1 : BitVec 40) (i2 : BitVec 30) (i3L : BitVec 20) (s : State) :
    Host.Outcome State Fault Refusal :=
  runPackage ⟨.none, [.w30 i0, .w40 i1, .w30 i2], .p20 i3L, .none⟩ s

/-- PKG-82 (R126). -/
def execPkg82 (t : BitVec 30) (i0 : BitVec 40) (i1 : BitVec 40) (z : BitVec 10) (s : State) :
    Host.Outcome State Fault Refusal :=
  runPackage ⟨.p30 t, [.w40 i0, .w40 i1], .none, .z10 z⟩ s

/-- PKG-83 (R126). -/
def execPkg83 (t : BitVec 30) (i0 : BitVec 40) (i1 : BitVec 40) (i2L : BitVec 10) (s : State) :
    Host.Outcome State Fault Refusal :=
  runPackage ⟨.p30 t, [.w40 i0, .w40 i1], .p10 i2L, .none⟩ s

/-- PKG-84 (R126). -/
def execPkg84 (i0 : BitVec 30) (i1 : BitVec 40) (i2 : BitVec 40) (z : BitVec 10) (s : State) :
    Host.Outcome State Fault Refusal :=
  runPackage ⟨.none, [.w30 i0, .w40 i1, .w40 i2], .none, .z10 z⟩ s

/-- PKG-85 (R126). -/
def execPkg85 (i0 : BitVec 30) (i1 : BitVec 40) (i2 : BitVec 40) (i3L : BitVec 10) (s : State) :
    Host.Outcome State Fault Refusal :=
  runPackage ⟨.none, [.w30 i0, .w40 i1, .w40 i2], .p10 i3L, .none⟩ s

/-- PKG-86 (R126). -/
def execPkg86 (t : BitVec 30) (i0 : BitVec 40) (i1 : BitVec 50) (s : State) :
    Host.Outcome State Fault Refusal :=
  runPackage ⟨.p30 t, [.w40 i0, .w50 i1], .none, .none⟩ s

/-- PKG-87 (R126). -/
def execPkg87 (t : BitVec 30) (i0 : BitVec 40) (i1L : BitVec 50) (s : State) :
    Host.Outcome State Fault Refusal :=
  runPackage ⟨.p30 t, [.w40 i0], .p50 i1L, .none⟩ s

/-- PKG-88 (R126). -/
def execPkg88 (i0 : BitVec 30) (i1 : BitVec 40) (i2 : BitVec 50) (s : State) :
    Host.Outcome State Fault Refusal :=
  runPackage ⟨.none, [.w30 i0, .w40 i1, .w50 i2], .none, .none⟩ s

/-- PKG-89 (R126). -/
def execPkg89 (i0 : BitVec 30) (i1 : BitVec 40) (i2L : BitVec 50) (s : State) :
    Host.Outcome State Fault Refusal :=
  runPackage ⟨.none, [.w30 i0, .w40 i1], .p50 i2L, .none⟩ s

/-- PKG-90 (R126). -/
def execPkg90 (t : BitVec 30) (i0 : BitVec 50) (i1 : BitVec 30) (z : BitVec 10) (s : State) :
    Host.Outcome State Fault Refusal :=
  runPackage ⟨.p30 t, [.w50 i0, .w30 i1], .none, .z10 z⟩ s

/-- PKG-91 (R126). -/
def execPkg91 (t : BitVec 30) (i0 : BitVec 50) (i1 : BitVec 30) (i2L : BitVec 10) (s : State) :
    Host.Outcome State Fault Refusal :=
  runPackage ⟨.p30 t, [.w50 i0, .w30 i1], .p10 i2L, .none⟩ s

/-- PKG-92 (R126). -/
def execPkg92 (i0 : BitVec 30) (i1 : BitVec 50) (i2 : BitVec 30) (z : BitVec 10) (s : State) :
    Host.Outcome State Fault Refusal :=
  runPackage ⟨.none, [.w30 i0, .w50 i1, .w30 i2], .none, .z10 z⟩ s

/-- PKG-93 (R126). -/
def execPkg93 (i0 : BitVec 30) (i1 : BitVec 50) (i2 : BitVec 30) (i3L : BitVec 10) (s : State) :
    Host.Outcome State Fault Refusal :=
  runPackage ⟨.none, [.w30 i0, .w50 i1, .w30 i2], .p10 i3L, .none⟩ s

/-- PKG-94 (R126). -/
def execPkg94 (t : BitVec 30) (i0 : BitVec 50) (i1 : BitVec 40) (s : State) :
    Host.Outcome State Fault Refusal :=
  runPackage ⟨.p30 t, [.w50 i0, .w40 i1], .none, .none⟩ s

/-- PKG-95 (R126). -/
def execPkg95 (t : BitVec 30) (i0 : BitVec 50) (i1L : BitVec 40) (s : State) :
    Host.Outcome State Fault Refusal :=
  runPackage ⟨.p30 t, [.w50 i0], .p40 i1L, .none⟩ s

/-- PKG-96 (R126). -/
def execPkg96 (i0 : BitVec 30) (i1 : BitVec 50) (i2 : BitVec 40) (s : State) :
    Host.Outcome State Fault Refusal :=
  runPackage ⟨.none, [.w30 i0, .w50 i1, .w40 i2], .none, .none⟩ s

/-- PKG-97 (R126). -/
def execPkg97 (i0 : BitVec 30) (i1 : BitVec 50) (i2L : BitVec 40) (s : State) :
    Host.Outcome State Fault Refusal :=
  runPackage ⟨.none, [.w30 i0, .w50 i1], .p40 i2L, .none⟩ s

/-- PKG-98 (R126). -/
def execPkg98 (t : BitVec 30) (i0 : BitVec 60) (i1 : BitVec 30) (s : State) :
    Host.Outcome State Fault Refusal :=
  runPackage ⟨.p30 t, [.w60 i0, .w30 i1], .none, .none⟩ s

/-- PKG-99 (R126). -/
def execPkg99 (t : BitVec 30) (i0 : BitVec 60) (i1L : BitVec 30) (s : State) :
    Host.Outcome State Fault Refusal :=
  runPackage ⟨.p30 t, [.w60 i0], .p30 i1L, .none⟩ s

/-- PKG-100 (R126). -/
def execPkg100 (i0 : BitVec 30) (i1 : BitVec 60) (i2 : BitVec 30) (s : State) :
    Host.Outcome State Fault Refusal :=
  runPackage ⟨.none, [.w30 i0, .w60 i1, .w30 i2], .none, .none⟩ s

/-- PKG-101 (R126). -/
def execPkg101 (i0 : BitVec 30) (i1 : BitVec 60) (i2L : BitVec 30) (s : State) :
    Host.Outcome State Fault Refusal :=
  runPackage ⟨.none, [.w30 i0, .w60 i1], .p30 i2L, .none⟩ s

/-- PKG-102 (R126). -/
def execPkg102 (t : BitVec 40) (i0 : BitVec 30) (i1 : BitVec 30) (z : BitVec 20) (s : State) :
    Host.Outcome State Fault Refusal :=
  runPackage ⟨.p40 t, [.w30 i0, .w30 i1], .none, .z20 z⟩ s

/-- PKG-103 (R126). -/
def execPkg103 (t : BitVec 40) (i0 : BitVec 30) (i1 : BitVec 30) (i2L : BitVec 20) (s : State) :
    Host.Outcome State Fault Refusal :=
  runPackage ⟨.p40 t, [.w30 i0, .w30 i1], .p20 i2L, .none⟩ s

/-- PKG-104 (R126). -/
def execPkg104 (i0 : BitVec 40) (i1 : BitVec 30) (i2 : BitVec 30) (z : BitVec 20) (s : State) :
    Host.Outcome State Fault Refusal :=
  runPackage ⟨.none, [.w40 i0, .w30 i1, .w30 i2], .none, .z20 z⟩ s

/-- PKG-105 (R126). -/
def execPkg105 (i0 : BitVec 40) (i1 : BitVec 30) (i2 : BitVec 30) (i3L : BitVec 20) (s : State) :
    Host.Outcome State Fault Refusal :=
  runPackage ⟨.none, [.w40 i0, .w30 i1, .w30 i2], .p20 i3L, .none⟩ s

/-- PKG-106 (R126). -/
def execPkg106 (t : BitVec 40) (i0 : BitVec 30) (i1 : BitVec 40) (z : BitVec 10) (s : State) :
    Host.Outcome State Fault Refusal :=
  runPackage ⟨.p40 t, [.w30 i0, .w40 i1], .none, .z10 z⟩ s

/-- PKG-107 (R126). -/
def execPkg107 (t : BitVec 40) (i0 : BitVec 30) (i1 : BitVec 40) (i2L : BitVec 10) (s : State) :
    Host.Outcome State Fault Refusal :=
  runPackage ⟨.p40 t, [.w30 i0, .w40 i1], .p10 i2L, .none⟩ s

/-- PKG-108 (R126). -/
def execPkg108 (i0 : BitVec 40) (i1 : BitVec 30) (i2 : BitVec 40) (z : BitVec 10) (s : State) :
    Host.Outcome State Fault Refusal :=
  runPackage ⟨.none, [.w40 i0, .w30 i1, .w40 i2], .none, .z10 z⟩ s

/-- PKG-109 (R126). -/
def execPkg109 (i0 : BitVec 40) (i1 : BitVec 30) (i2 : BitVec 40) (i3L : BitVec 10) (s : State) :
    Host.Outcome State Fault Refusal :=
  runPackage ⟨.none, [.w40 i0, .w30 i1, .w40 i2], .p10 i3L, .none⟩ s

/-- PKG-110 (R126). -/
def execPkg110 (t : BitVec 40) (i0 : BitVec 30) (i1 : BitVec 50) (s : State) :
    Host.Outcome State Fault Refusal :=
  runPackage ⟨.p40 t, [.w30 i0, .w50 i1], .none, .none⟩ s

/-- PKG-111 (R126). -/
def execPkg111 (t : BitVec 40) (i0 : BitVec 30) (i1L : BitVec 50) (s : State) :
    Host.Outcome State Fault Refusal :=
  runPackage ⟨.p40 t, [.w30 i0], .p50 i1L, .none⟩ s

/-- PKG-112 (R126). -/
def execPkg112 (i0 : BitVec 40) (i1 : BitVec 30) (i2 : BitVec 50) (s : State) :
    Host.Outcome State Fault Refusal :=
  runPackage ⟨.none, [.w40 i0, .w30 i1, .w50 i2], .none, .none⟩ s

/-- PKG-113 (R126). -/
def execPkg113 (i0 : BitVec 40) (i1 : BitVec 30) (i2L : BitVec 50) (s : State) :
    Host.Outcome State Fault Refusal :=
  runPackage ⟨.none, [.w40 i0, .w30 i1], .p50 i2L, .none⟩ s

/-- PKG-114 (R126). -/
def execPkg114 (t : BitVec 40) (i0 : BitVec 40) (i1 : BitVec 30) (z : BitVec 10) (s : State) :
    Host.Outcome State Fault Refusal :=
  runPackage ⟨.p40 t, [.w40 i0, .w30 i1], .none, .z10 z⟩ s

/-- PKG-115 (R126). -/
def execPkg115 (t : BitVec 40) (i0 : BitVec 40) (i1 : BitVec 30) (i2L : BitVec 10) (s : State) :
    Host.Outcome State Fault Refusal :=
  runPackage ⟨.p40 t, [.w40 i0, .w30 i1], .p10 i2L, .none⟩ s

/-- PKG-116 (R126). -/
def execPkg116 (i0 : BitVec 40) (i1 : BitVec 40) (i2 : BitVec 30) (z : BitVec 10) (s : State) :
    Host.Outcome State Fault Refusal :=
  runPackage ⟨.none, [.w40 i0, .w40 i1, .w30 i2], .none, .z10 z⟩ s

/-- PKG-117 (R126). -/
def execPkg117 (i0 : BitVec 40) (i1 : BitVec 40) (i2 : BitVec 30) (i3L : BitVec 10) (s : State) :
    Host.Outcome State Fault Refusal :=
  runPackage ⟨.none, [.w40 i0, .w40 i1, .w30 i2], .p10 i3L, .none⟩ s

/-- PKG-118 (R126). -/
def execPkg118 (t : BitVec 40) (i0 : BitVec 40) (i1 : BitVec 40) (s : State) :
    Host.Outcome State Fault Refusal :=
  runPackage ⟨.p40 t, [.w40 i0, .w40 i1], .none, .none⟩ s

/-- PKG-119 (R126). -/
def execPkg119 (t : BitVec 40) (i0 : BitVec 40) (i1L : BitVec 40) (s : State) :
    Host.Outcome State Fault Refusal :=
  runPackage ⟨.p40 t, [.w40 i0], .p40 i1L, .none⟩ s

/-- PKG-120 (R126). -/
def execPkg120 (i0 : BitVec 40) (i1 : BitVec 40) (i2 : BitVec 40) (s : State) :
    Host.Outcome State Fault Refusal :=
  runPackage ⟨.none, [.w40 i0, .w40 i1, .w40 i2], .none, .none⟩ s

/-- PKG-121 (R126). -/
def execPkg121 (i0 : BitVec 40) (i1 : BitVec 40) (i2L : BitVec 40) (s : State) :
    Host.Outcome State Fault Refusal :=
  runPackage ⟨.none, [.w40 i0, .w40 i1], .p40 i2L, .none⟩ s

/-- PKG-122 (R126). -/
def execPkg122 (t : BitVec 40) (i0 : BitVec 50) (i1 : BitVec 30) (s : State) :
    Host.Outcome State Fault Refusal :=
  runPackage ⟨.p40 t, [.w50 i0, .w30 i1], .none, .none⟩ s

/-- PKG-123 (R126). -/
def execPkg123 (t : BitVec 40) (i0 : BitVec 50) (i1L : BitVec 30) (s : State) :
    Host.Outcome State Fault Refusal :=
  runPackage ⟨.p40 t, [.w50 i0], .p30 i1L, .none⟩ s

/-- PKG-124 (R126). -/
def execPkg124 (i0 : BitVec 40) (i1 : BitVec 50) (i2 : BitVec 30) (s : State) :
    Host.Outcome State Fault Refusal :=
  runPackage ⟨.none, [.w40 i0, .w50 i1, .w30 i2], .none, .none⟩ s

/-- PKG-125 (R126). -/
def execPkg125 (i0 : BitVec 40) (i1 : BitVec 50) (i2L : BitVec 30) (s : State) :
    Host.Outcome State Fault Refusal :=
  runPackage ⟨.none, [.w40 i0, .w50 i1], .p30 i2L, .none⟩ s

/-- PKG-126 (R126). -/
def execPkg126 (t : BitVec 40) (i0 : BitVec 60) (z : BitVec 20) (s : State) :
    Host.Outcome State Fault Refusal :=
  runPackage ⟨.p40 t, [.w60 i0], .none, .z20 z⟩ s

/-- PKG-127 (R126). -/
def execPkg127 (t : BitVec 40) (i0 : BitVec 60) (i1L : BitVec 20) (s : State) :
    Host.Outcome State Fault Refusal :=
  runPackage ⟨.p40 t, [.w60 i0], .p20 i1L, .none⟩ s

/-- PKG-128 (R126). -/
def execPkg128 (i0 : BitVec 40) (i1 : BitVec 60) (z : BitVec 20) (s : State) :
    Host.Outcome State Fault Refusal :=
  runPackage ⟨.none, [.w40 i0, .w60 i1], .none, .z20 z⟩ s

/-- PKG-129 (R126). -/
def execPkg129 (i0 : BitVec 40) (i1 : BitVec 60) (i2L : BitVec 20) (s : State) :
    Host.Outcome State Fault Refusal :=
  runPackage ⟨.none, [.w40 i0, .w60 i1], .p20 i2L, .none⟩ s

/-- PKG-130 (R126). -/
def execPkg130 (t : BitVec 50) (i0 : BitVec 30) (i1 : BitVec 30) (z : BitVec 10) (s : State) :
    Host.Outcome State Fault Refusal :=
  runPackage ⟨.p50 t, [.w30 i0, .w30 i1], .none, .z10 z⟩ s

/-- PKG-131 (R126). -/
def execPkg131 (t : BitVec 50) (i0 : BitVec 30) (i1 : BitVec 30) (i2L : BitVec 10) (s : State) :
    Host.Outcome State Fault Refusal :=
  runPackage ⟨.p50 t, [.w30 i0, .w30 i1], .p10 i2L, .none⟩ s

/-- PKG-132 (R126). -/
def execPkg132 (i0 : BitVec 50) (i1 : BitVec 30) (i2 : BitVec 30) (z : BitVec 10) (s : State) :
    Host.Outcome State Fault Refusal :=
  runPackage ⟨.none, [.w50 i0, .w30 i1, .w30 i2], .none, .z10 z⟩ s

/-- PKG-133 (R126). -/
def execPkg133 (i0 : BitVec 50) (i1 : BitVec 30) (i2 : BitVec 30) (i3L : BitVec 10) (s : State) :
    Host.Outcome State Fault Refusal :=
  runPackage ⟨.none, [.w50 i0, .w30 i1, .w30 i2], .p10 i3L, .none⟩ s

/-- PKG-134 (R126). -/
def execPkg134 (t : BitVec 50) (i0 : BitVec 30) (i1 : BitVec 40) (s : State) :
    Host.Outcome State Fault Refusal :=
  runPackage ⟨.p50 t, [.w30 i0, .w40 i1], .none, .none⟩ s

/-- PKG-135 (R126). -/
def execPkg135 (t : BitVec 50) (i0 : BitVec 30) (i1L : BitVec 40) (s : State) :
    Host.Outcome State Fault Refusal :=
  runPackage ⟨.p50 t, [.w30 i0], .p40 i1L, .none⟩ s

/-- PKG-136 (R126). -/
def execPkg136 (i0 : BitVec 50) (i1 : BitVec 30) (i2 : BitVec 40) (s : State) :
    Host.Outcome State Fault Refusal :=
  runPackage ⟨.none, [.w50 i0, .w30 i1, .w40 i2], .none, .none⟩ s

/-- PKG-137 (R126). -/
def execPkg137 (i0 : BitVec 50) (i1 : BitVec 30) (i2L : BitVec 40) (s : State) :
    Host.Outcome State Fault Refusal :=
  runPackage ⟨.none, [.w50 i0, .w30 i1], .p40 i2L, .none⟩ s

/-- PKG-138 (R126). -/
def execPkg138 (t : BitVec 50) (i0 : BitVec 40) (i1 : BitVec 30) (s : State) :
    Host.Outcome State Fault Refusal :=
  runPackage ⟨.p50 t, [.w40 i0, .w30 i1], .none, .none⟩ s

/-- PKG-139 (R126). -/
def execPkg139 (t : BitVec 50) (i0 : BitVec 40) (i1L : BitVec 30) (s : State) :
    Host.Outcome State Fault Refusal :=
  runPackage ⟨.p50 t, [.w40 i0], .p30 i1L, .none⟩ s

/-- PKG-140 (R126). -/
def execPkg140 (i0 : BitVec 50) (i1 : BitVec 40) (i2 : BitVec 30) (s : State) :
    Host.Outcome State Fault Refusal :=
  runPackage ⟨.none, [.w50 i0, .w40 i1, .w30 i2], .none, .none⟩ s

/-- PKG-141 (R126). -/
def execPkg141 (i0 : BitVec 50) (i1 : BitVec 40) (i2L : BitVec 30) (s : State) :
    Host.Outcome State Fault Refusal :=
  runPackage ⟨.none, [.w50 i0, .w40 i1], .p30 i2L, .none⟩ s

/-- PKG-142 (R126). -/
def execPkg142 (t : BitVec 50) (i0 : BitVec 50) (z : BitVec 20) (s : State) :
    Host.Outcome State Fault Refusal :=
  runPackage ⟨.p50 t, [.w50 i0], .none, .z20 z⟩ s

/-- PKG-143 (R126). -/
def execPkg143 (t : BitVec 50) (i0 : BitVec 50) (i1L : BitVec 20) (s : State) :
    Host.Outcome State Fault Refusal :=
  runPackage ⟨.p50 t, [.w50 i0], .p20 i1L, .none⟩ s

/-- PKG-144 (R126). -/
def execPkg144 (i0 : BitVec 50) (i1 : BitVec 50) (z : BitVec 20) (s : State) :
    Host.Outcome State Fault Refusal :=
  runPackage ⟨.none, [.w50 i0, .w50 i1], .none, .z20 z⟩ s

/-- PKG-145 (R126). -/
def execPkg145 (i0 : BitVec 50) (i1 : BitVec 50) (i2L : BitVec 20) (s : State) :
    Host.Outcome State Fault Refusal :=
  runPackage ⟨.none, [.w50 i0, .w50 i1], .p20 i2L, .none⟩ s

/-- PKG-146 (R126). -/
def execPkg146 (t : BitVec 50) (i0 : BitVec 60) (z : BitVec 10) (s : State) :
    Host.Outcome State Fault Refusal :=
  runPackage ⟨.p50 t, [.w60 i0], .none, .z10 z⟩ s

/-- PKG-147 (R126). -/
def execPkg147 (t : BitVec 50) (i0 : BitVec 60) (i1L : BitVec 10) (s : State) :
    Host.Outcome State Fault Refusal :=
  runPackage ⟨.p50 t, [.w60 i0], .p10 i1L, .none⟩ s

/-- PKG-148 (R126). -/
def execPkg148 (i0 : BitVec 50) (i1 : BitVec 60) (z : BitVec 10) (s : State) :
    Host.Outcome State Fault Refusal :=
  runPackage ⟨.none, [.w50 i0, .w60 i1], .none, .z10 z⟩ s

/-- PKG-149 (R126). -/
def execPkg149 (i0 : BitVec 50) (i1 : BitVec 60) (i2L : BitVec 10) (s : State) :
    Host.Outcome State Fault Refusal :=
  runPackage ⟨.none, [.w50 i0, .w60 i1], .p10 i2L, .none⟩ s

/-- PKG-150 (R126). -/
def execPkg150 (i0 : BitVec 60) (i1 : BitVec 30) (i2 : BitVec 30) (s : State) :
    Host.Outcome State Fault Refusal :=
  runPackage ⟨.none, [.w60 i0, .w30 i1, .w30 i2], .none, .none⟩ s

/-- PKG-151 (R126). -/
def execPkg151 (i0 : BitVec 60) (i1 : BitVec 30) (i2L : BitVec 30) (s : State) :
    Host.Outcome State Fault Refusal :=
  runPackage ⟨.none, [.w60 i0, .w30 i1], .p30 i2L, .none⟩ s

/-- PKG-152 (R126). -/
def execPkg152 (i0 : BitVec 60) (i1 : BitVec 40) (z : BitVec 20) (s : State) :
    Host.Outcome State Fault Refusal :=
  runPackage ⟨.none, [.w60 i0, .w40 i1], .none, .z20 z⟩ s

/-- PKG-153 (R126). -/
def execPkg153 (i0 : BitVec 60) (i1 : BitVec 40) (i2L : BitVec 20) (s : State) :
    Host.Outcome State Fault Refusal :=
  runPackage ⟨.none, [.w60 i0, .w40 i1], .p20 i2L, .none⟩ s

/-- PKG-154 (R126). -/
def execPkg154 (i0 : BitVec 60) (i1 : BitVec 50) (z : BitVec 10) (s : State) :
    Host.Outcome State Fault Refusal :=
  runPackage ⟨.none, [.w60 i0, .w50 i1], .none, .z10 z⟩ s

/-- PKG-155 (R126). -/
def execPkg155 (i0 : BitVec 60) (i1 : BitVec 50) (i2L : BitVec 10) (s : State) :
    Host.Outcome State Fault Refusal :=
  runPackage ⟨.none, [.w60 i0, .w50 i1], .p10 i2L, .none⟩ s

/-- PKG-156 (R126). -/
def execPkg156 (i0 : BitVec 60) (i1 : BitVec 60) (s : State) :
    Host.Outcome State Fault Refusal :=
  runPackage ⟨.none, [.w60 i0, .w60 i1], .none, .none⟩ s

end Sys2Proof.Machine
end

