-- ==== Sys2Proof/Machine/Dispatch.lean ====
section
/-! DEFINITION. One arm per constructor of Instr. -/

namespace Sys2Proof.Machine

open Sys2Proof

def exec (i : Instr) (s : State) : Host.Outcome State Fault Refusal :=
  match i with
  | .pkg0 t i0 i1 i2 z => Sys2Proof.Machine.execPkg0 t i0 i1 i2 z s
  | .pkg1 t i0 i1 i2 i3L => Sys2Proof.Machine.execPkg1 t i0 i1 i2 i3L s
  | .pkg2 t i0 i1 i2 z => Sys2Proof.Machine.execPkg2 t i0 i1 i2 z s
  | .pkg3 t i0 i1 i2 i3L => Sys2Proof.Machine.execPkg3 t i0 i1 i2 i3L s
  | .pkg4 t i0 i1 i2 => Sys2Proof.Machine.execPkg4 t i0 i1 i2 s
  | .pkg5 t i0 i1 i2L => Sys2Proof.Machine.execPkg5 t i0 i1 i2L s
  | .pkg6 t i0 i1 i2 z => Sys2Proof.Machine.execPkg6 t i0 i1 i2 z s
  | .pkg7 t i0 i1 i2 i3L => Sys2Proof.Machine.execPkg7 t i0 i1 i2 i3L s
  | .pkg8 t i0 i1 i2 => Sys2Proof.Machine.execPkg8 t i0 i1 i2 s
  | .pkg9 t i0 i1 i2L => Sys2Proof.Machine.execPkg9 t i0 i1 i2L s
  | .pkg10 t i0 i1 i2 => Sys2Proof.Machine.execPkg10 t i0 i1 i2 s
  | .pkg11 t i0 i1 i2L => Sys2Proof.Machine.execPkg11 t i0 i1 i2L s
  | .pkg12 t i0 i1 z => Sys2Proof.Machine.execPkg12 t i0 i1 z s
  | .pkg13 t i0 i1 i2L => Sys2Proof.Machine.execPkg13 t i0 i1 i2L s
  | .pkg14 t i0 i1 i2 z => Sys2Proof.Machine.execPkg14 t i0 i1 i2 z s
  | .pkg15 t i0 i1 i2 i3L => Sys2Proof.Machine.execPkg15 t i0 i1 i2 i3L s
  | .pkg16 t i0 i1 i2 => Sys2Proof.Machine.execPkg16 t i0 i1 i2 s
  | .pkg17 t i0 i1 i2L => Sys2Proof.Machine.execPkg17 t i0 i1 i2L s
  | .pkg18 t i0 i1 i2 => Sys2Proof.Machine.execPkg18 t i0 i1 i2 s
  | .pkg19 t i0 i1 i2L => Sys2Proof.Machine.execPkg19 t i0 i1 i2L s
  | .pkg20 t i0 i1 z => Sys2Proof.Machine.execPkg20 t i0 i1 z s
  | .pkg21 t i0 i1 i2L => Sys2Proof.Machine.execPkg21 t i0 i1 i2L s
  | .pkg22 t i0 i1 z => Sys2Proof.Machine.execPkg22 t i0 i1 z s
  | .pkg23 t i0 i1 i2L => Sys2Proof.Machine.execPkg23 t i0 i1 i2L s
  | .pkg24 t i0 i1 i2 => Sys2Proof.Machine.execPkg24 t i0 i1 i2 s
  | .pkg25 t i0 i1 i2L => Sys2Proof.Machine.execPkg25 t i0 i1 i2L s
  | .pkg26 t i0 i1 z => Sys2Proof.Machine.execPkg26 t i0 i1 z s
  | .pkg27 t i0 i1 i2L => Sys2Proof.Machine.execPkg27 t i0 i1 i2L s
  | .pkg28 t i0 i1 z => Sys2Proof.Machine.execPkg28 t i0 i1 z s
  | .pkg29 t i0 i1 i2L => Sys2Proof.Machine.execPkg29 t i0 i1 i2L s
  | .pkg30 t i0 i1 => Sys2Proof.Machine.execPkg30 t i0 i1 s
  | .pkg31 t i0 i1 z => Sys2Proof.Machine.execPkg31 t i0 i1 z s
  | .pkg32 t i0 i1 i2L => Sys2Proof.Machine.execPkg32 t i0 i1 i2L s
  | .pkg33 t i0 i1 z => Sys2Proof.Machine.execPkg33 t i0 i1 z s
  | .pkg34 t i0 i1 i2L => Sys2Proof.Machine.execPkg34 t i0 i1 i2L s
  | .pkg35 t i0 i1 => Sys2Proof.Machine.execPkg35 t i0 i1 s
  | .pkg36 t i0 i1L => Sys2Proof.Machine.execPkg36 t i0 i1L s
  | .pkg37 t i0 i1 i2 z => Sys2Proof.Machine.execPkg37 t i0 i1 i2 z s
  | .pkg38 t i0 i1 i2 i3L => Sys2Proof.Machine.execPkg38 t i0 i1 i2 i3L s
  | .pkg39 t i0 i1 i2 => Sys2Proof.Machine.execPkg39 t i0 i1 i2 s
  | .pkg40 t i0 i1 i2L => Sys2Proof.Machine.execPkg40 t i0 i1 i2L s
  | .pkg41 t i0 i1 i2 => Sys2Proof.Machine.execPkg41 t i0 i1 i2 s
  | .pkg42 t i0 i1 i2L => Sys2Proof.Machine.execPkg42 t i0 i1 i2L s
  | .pkg43 t i0 i1 z => Sys2Proof.Machine.execPkg43 t i0 i1 z s
  | .pkg44 t i0 i1 i2L => Sys2Proof.Machine.execPkg44 t i0 i1 i2L s
  | .pkg45 t i0 i1 z => Sys2Proof.Machine.execPkg45 t i0 i1 z s
  | .pkg46 t i0 i1 i2L => Sys2Proof.Machine.execPkg46 t i0 i1 i2L s
  | .pkg47 t i0 i1 i2 => Sys2Proof.Machine.execPkg47 t i0 i1 i2 s
  | .pkg48 t i0 i1 i2L => Sys2Proof.Machine.execPkg48 t i0 i1 i2L s
  | .pkg49 t i0 i1 z => Sys2Proof.Machine.execPkg49 t i0 i1 z s
  | .pkg50 t i0 i1 i2L => Sys2Proof.Machine.execPkg50 t i0 i1 i2L s
  | .pkg51 t i0 i1 z => Sys2Proof.Machine.execPkg51 t i0 i1 z s
  | .pkg52 t i0 i1 i2L => Sys2Proof.Machine.execPkg52 t i0 i1 i2L s
  | .pkg53 t i0 i1 => Sys2Proof.Machine.execPkg53 t i0 i1 s
  | .pkg54 t i0 i1 z => Sys2Proof.Machine.execPkg54 t i0 i1 z s
  | .pkg55 t i0 i1 i2L => Sys2Proof.Machine.execPkg55 t i0 i1 i2L s
  | .pkg56 t i0 i1 z => Sys2Proof.Machine.execPkg56 t i0 i1 z s
  | .pkg57 t i0 i1 i2L => Sys2Proof.Machine.execPkg57 t i0 i1 i2L s
  | .pkg58 t i0 i1 => Sys2Proof.Machine.execPkg58 t i0 i1 s
  | .pkg59 t i0 i1L => Sys2Proof.Machine.execPkg59 t i0 i1L s
  | .pkg60 t i0 i1 z => Sys2Proof.Machine.execPkg60 t i0 i1 z s
  | .pkg61 t i0 i1 i2L => Sys2Proof.Machine.execPkg61 t i0 i1 i2L s
  | .pkg62 t i0 i1 => Sys2Proof.Machine.execPkg62 t i0 i1 s
  | .pkg63 t i0 i1L => Sys2Proof.Machine.execPkg63 t i0 i1L s
  | .pkg64 t i0 i1 i2 => Sys2Proof.Machine.execPkg64 t i0 i1 i2 s
  | .pkg65 t i0 i1 i2L => Sys2Proof.Machine.execPkg65 t i0 i1 i2L s
  | .pkg66 i0 i1 i2 i3 => Sys2Proof.Machine.execPkg66 i0 i1 i2 i3 s
  | .pkg67 i0 i1 i2 i3L => Sys2Proof.Machine.execPkg67 i0 i1 i2 i3L s
  | .pkg68 t i0 i1 z => Sys2Proof.Machine.execPkg68 t i0 i1 z s
  | .pkg69 t i0 i1 i2L => Sys2Proof.Machine.execPkg69 t i0 i1 i2L s
  | .pkg70 i0 i1 i2 z => Sys2Proof.Machine.execPkg70 i0 i1 i2 z s
  | .pkg71 i0 i1 i2 i3L => Sys2Proof.Machine.execPkg71 i0 i1 i2 i3L s
  | .pkg72 t i0 i1 z => Sys2Proof.Machine.execPkg72 t i0 i1 z s
  | .pkg73 t i0 i1 i2L => Sys2Proof.Machine.execPkg73 t i0 i1 i2L s
  | .pkg74 i0 i1 i2 z => Sys2Proof.Machine.execPkg74 i0 i1 i2 z s
  | .pkg75 i0 i1 i2 i3L => Sys2Proof.Machine.execPkg75 i0 i1 i2 i3L s
  | .pkg76 t i0 i1 => Sys2Proof.Machine.execPkg76 t i0 i1 s
  | .pkg77 i0 i1 i2 => Sys2Proof.Machine.execPkg77 i0 i1 i2 s
  | .pkg78 t i0 i1 z => Sys2Proof.Machine.execPkg78 t i0 i1 z s
  | .pkg79 t i0 i1 i2L => Sys2Proof.Machine.execPkg79 t i0 i1 i2L s
  | .pkg80 i0 i1 i2 z => Sys2Proof.Machine.execPkg80 i0 i1 i2 z s
  | .pkg81 i0 i1 i2 i3L => Sys2Proof.Machine.execPkg81 i0 i1 i2 i3L s
  | .pkg82 t i0 i1 z => Sys2Proof.Machine.execPkg82 t i0 i1 z s
  | .pkg83 t i0 i1 i2L => Sys2Proof.Machine.execPkg83 t i0 i1 i2L s
  | .pkg84 i0 i1 i2 z => Sys2Proof.Machine.execPkg84 i0 i1 i2 z s
  | .pkg85 i0 i1 i2 i3L => Sys2Proof.Machine.execPkg85 i0 i1 i2 i3L s
  | .pkg86 t i0 i1 => Sys2Proof.Machine.execPkg86 t i0 i1 s
  | .pkg87 t i0 i1L => Sys2Proof.Machine.execPkg87 t i0 i1L s
  | .pkg88 i0 i1 i2 => Sys2Proof.Machine.execPkg88 i0 i1 i2 s
  | .pkg89 i0 i1 i2L => Sys2Proof.Machine.execPkg89 i0 i1 i2L s
  | .pkg90 t i0 i1 z => Sys2Proof.Machine.execPkg90 t i0 i1 z s
  | .pkg91 t i0 i1 i2L => Sys2Proof.Machine.execPkg91 t i0 i1 i2L s
  | .pkg92 i0 i1 i2 z => Sys2Proof.Machine.execPkg92 i0 i1 i2 z s
  | .pkg93 i0 i1 i2 i3L => Sys2Proof.Machine.execPkg93 i0 i1 i2 i3L s
  | .pkg94 t i0 i1 => Sys2Proof.Machine.execPkg94 t i0 i1 s
  | .pkg95 t i0 i1L => Sys2Proof.Machine.execPkg95 t i0 i1L s
  | .pkg96 i0 i1 i2 => Sys2Proof.Machine.execPkg96 i0 i1 i2 s
  | .pkg97 i0 i1 i2L => Sys2Proof.Machine.execPkg97 i0 i1 i2L s
  | .pkg98 t i0 i1 => Sys2Proof.Machine.execPkg98 t i0 i1 s
  | .pkg99 t i0 i1L => Sys2Proof.Machine.execPkg99 t i0 i1L s
  | .pkg100 i0 i1 i2 => Sys2Proof.Machine.execPkg100 i0 i1 i2 s
  | .pkg101 i0 i1 i2L => Sys2Proof.Machine.execPkg101 i0 i1 i2L s
  | .pkg102 t i0 i1 z => Sys2Proof.Machine.execPkg102 t i0 i1 z s
  | .pkg103 t i0 i1 i2L => Sys2Proof.Machine.execPkg103 t i0 i1 i2L s
  | .pkg104 i0 i1 i2 z => Sys2Proof.Machine.execPkg104 i0 i1 i2 z s
  | .pkg105 i0 i1 i2 i3L => Sys2Proof.Machine.execPkg105 i0 i1 i2 i3L s
  | .pkg106 t i0 i1 z => Sys2Proof.Machine.execPkg106 t i0 i1 z s
  | .pkg107 t i0 i1 i2L => Sys2Proof.Machine.execPkg107 t i0 i1 i2L s
  | .pkg108 i0 i1 i2 z => Sys2Proof.Machine.execPkg108 i0 i1 i2 z s
  | .pkg109 i0 i1 i2 i3L => Sys2Proof.Machine.execPkg109 i0 i1 i2 i3L s
  | .pkg110 t i0 i1 => Sys2Proof.Machine.execPkg110 t i0 i1 s
  | .pkg111 t i0 i1L => Sys2Proof.Machine.execPkg111 t i0 i1L s
  | .pkg112 i0 i1 i2 => Sys2Proof.Machine.execPkg112 i0 i1 i2 s
  | .pkg113 i0 i1 i2L => Sys2Proof.Machine.execPkg113 i0 i1 i2L s
  | .pkg114 t i0 i1 z => Sys2Proof.Machine.execPkg114 t i0 i1 z s
  | .pkg115 t i0 i1 i2L => Sys2Proof.Machine.execPkg115 t i0 i1 i2L s
  | .pkg116 i0 i1 i2 z => Sys2Proof.Machine.execPkg116 i0 i1 i2 z s
  | .pkg117 i0 i1 i2 i3L => Sys2Proof.Machine.execPkg117 i0 i1 i2 i3L s
  | .pkg118 t i0 i1 => Sys2Proof.Machine.execPkg118 t i0 i1 s
  | .pkg119 t i0 i1L => Sys2Proof.Machine.execPkg119 t i0 i1L s
  | .pkg120 i0 i1 i2 => Sys2Proof.Machine.execPkg120 i0 i1 i2 s
  | .pkg121 i0 i1 i2L => Sys2Proof.Machine.execPkg121 i0 i1 i2L s
  | .pkg122 t i0 i1 => Sys2Proof.Machine.execPkg122 t i0 i1 s
  | .pkg123 t i0 i1L => Sys2Proof.Machine.execPkg123 t i0 i1L s
  | .pkg124 i0 i1 i2 => Sys2Proof.Machine.execPkg124 i0 i1 i2 s
  | .pkg125 i0 i1 i2L => Sys2Proof.Machine.execPkg125 i0 i1 i2L s
  | .pkg126 t i0 z => Sys2Proof.Machine.execPkg126 t i0 z s
  | .pkg127 t i0 i1L => Sys2Proof.Machine.execPkg127 t i0 i1L s
  | .pkg128 i0 i1 z => Sys2Proof.Machine.execPkg128 i0 i1 z s
  | .pkg129 i0 i1 i2L => Sys2Proof.Machine.execPkg129 i0 i1 i2L s
  | .pkg130 t i0 i1 z => Sys2Proof.Machine.execPkg130 t i0 i1 z s
  | .pkg131 t i0 i1 i2L => Sys2Proof.Machine.execPkg131 t i0 i1 i2L s
  | .pkg132 i0 i1 i2 z => Sys2Proof.Machine.execPkg132 i0 i1 i2 z s
  | .pkg133 i0 i1 i2 i3L => Sys2Proof.Machine.execPkg133 i0 i1 i2 i3L s
  | .pkg134 t i0 i1 => Sys2Proof.Machine.execPkg134 t i0 i1 s
  | .pkg135 t i0 i1L => Sys2Proof.Machine.execPkg135 t i0 i1L s
  | .pkg136 i0 i1 i2 => Sys2Proof.Machine.execPkg136 i0 i1 i2 s
  | .pkg137 i0 i1 i2L => Sys2Proof.Machine.execPkg137 i0 i1 i2L s
  | .pkg138 t i0 i1 => Sys2Proof.Machine.execPkg138 t i0 i1 s
  | .pkg139 t i0 i1L => Sys2Proof.Machine.execPkg139 t i0 i1L s
  | .pkg140 i0 i1 i2 => Sys2Proof.Machine.execPkg140 i0 i1 i2 s
  | .pkg141 i0 i1 i2L => Sys2Proof.Machine.execPkg141 i0 i1 i2L s
  | .pkg142 t i0 z => Sys2Proof.Machine.execPkg142 t i0 z s
  | .pkg143 t i0 i1L => Sys2Proof.Machine.execPkg143 t i0 i1L s
  | .pkg144 i0 i1 z => Sys2Proof.Machine.execPkg144 i0 i1 z s
  | .pkg145 i0 i1 i2L => Sys2Proof.Machine.execPkg145 i0 i1 i2L s
  | .pkg146 t i0 z => Sys2Proof.Machine.execPkg146 t i0 z s
  | .pkg147 t i0 i1L => Sys2Proof.Machine.execPkg147 t i0 i1L s
  | .pkg148 i0 i1 z => Sys2Proof.Machine.execPkg148 i0 i1 z s
  | .pkg149 i0 i1 i2L => Sys2Proof.Machine.execPkg149 i0 i1 i2L s
  | .pkg150 i0 i1 i2 => Sys2Proof.Machine.execPkg150 i0 i1 i2 s
  | .pkg151 i0 i1 i2L => Sys2Proof.Machine.execPkg151 i0 i1 i2L s
  | .pkg152 i0 i1 z => Sys2Proof.Machine.execPkg152 i0 i1 z s
  | .pkg153 i0 i1 i2L => Sys2Proof.Machine.execPkg153 i0 i1 i2L s
  | .pkg154 i0 i1 z => Sys2Proof.Machine.execPkg154 i0 i1 z s
  | .pkg155 i0 i1 i2L => Sys2Proof.Machine.execPkg155 i0 i1 i2L s
  | .pkg156 i0 i1 => Sys2Proof.Machine.execPkg156 i0 i1 s
  | .i30Popc0 rest => Sys2Proof.Machine.execI30Popc0 rest s
  | .i30Popc1 rest => Sys2Proof.Machine.execI30Popc1 rest s
  | .i30Popc2 rest => Sys2Proof.Machine.execI30Popc2 rest s
  | .i30Popc3 rest => Sys2Proof.Machine.execI30Popc3 rest s
  | .i30Popc4 rest => Sys2Proof.Machine.execI30Popc4 rest s
  | .i30Popc5 rest => Sys2Proof.Machine.execI30Popc5 rest s
  | .i30Popc6 rest => Sys2Proof.Machine.execI30Popc6 rest s
  | .i30Popc7 rest => Sys2Proof.Machine.execI30Popc7 rest s
  | .i40Popc0 rest => Sys2Proof.Machine.execI40Popc0 rest s
  | .i40Popc1 rest => Sys2Proof.Machine.execI40Popc1 rest s
  | .i40Popc2 rest => Sys2Proof.Machine.execI40Popc2 rest s
  | .i40Popc3 rest => Sys2Proof.Machine.execI40Popc3 rest s
  | .i40Popc4 rest => Sys2Proof.Machine.execI40Popc4 rest s
  | .i40Popc5 rest => Sys2Proof.Machine.execI40Popc5 rest s
  | .i40Popc6 rest => Sys2Proof.Machine.execI40Popc6 rest s
  | .i40Popc7 rest => Sys2Proof.Machine.execI40Popc7 rest s
  | .i50Popc0 rest => Sys2Proof.Machine.execI50Popc0 rest s
  | .i50Popc1 rest => Sys2Proof.Machine.execI50Popc1 rest s
  | .i50Popc2 rest => Sys2Proof.Machine.execI50Popc2 rest s
  | .i50Popc3 rest => Sys2Proof.Machine.execI50Popc3 rest s
  | .i50Popc4 rest => Sys2Proof.Machine.execI50Popc4 rest s
  | .i50Popc5 rest => Sys2Proof.Machine.execI50Popc5 rest s
  | .i50Popc6 rest => Sys2Proof.Machine.execI50Popc6 rest s
  | .i50Popc7 rest => Sys2Proof.Machine.execI50Popc7 rest s
  | .i60Popc0 rest => Sys2Proof.Machine.execI60Popc0 rest s
  | .i60Popc1 rest => Sys2Proof.Machine.execI60Popc1 rest s
  | .i60Popc2 rest => Sys2Proof.Machine.execI60Popc2 rest s
  | .i60Popc3 rest => Sys2Proof.Machine.execI60Popc3 rest s
  | .i60Popc4 rest => Sys2Proof.Machine.execI60Popc4 rest s
  | .i60Popc5 rest => Sys2Proof.Machine.execI60Popc5 rest s
  | .i60Popc6 rest => Sys2Proof.Machine.execI60Popc6 rest s
  | .i60Popc7 rest => Sys2Proof.Machine.execI60Popc7 rest s
  | .aviObtain o => Sys2Proof.Machine.execAviObtain o s
  | .aeQuery o => Sys2Proof.Machine.execAeQuery o s
  | .integerCarry o => Sys2Proof.Machine.execIntegerCarry o s
  | .vector o => Sys2Proof.Machine.execVector o s
  | .elementExtract o => Sys2Proof.Machine.execElementExtract o s
  | .elementDeposit o => Sys2Proof.Machine.execElementDeposit o s
  | .loadWordAddressed o => Sys2Proof.Machine.execLoadWord o s
  | .storeWordAddressed o => Sys2Proof.Machine.execStoreWord o s
  | .loadOctetAddressed o => Sys2Proof.Machine.execLoadOctet o s
  | .storeOctetAddressed o => Sys2Proof.Machine.execStoreOctet o s
  | .memoryBarrier o => Sys2Proof.Machine.execMemoryBarrier o s
  | .storeAtomic o => Sys2Proof.Machine.execStoreAtomic o s
  | .controlFlow o => Sys2Proof.Machine.execControlFlow o s
  | .internalInterrupt o => Sys2Proof.Machine.execInternalInterrupt o s
  | .sendInterrupt o => Sys2Proof.Machine.execSendInterrupt o s
  | .null o => Sys2Proof.Machine.execNull o s
  | .privilegedState o => Sys2Proof.Machine.execPrivilegedState o s

end Sys2Proof.Machine
end

