-- ==== Sys2Proof/Machine/Fetch.lean ====
section
/-! DEFINITION. The front of the instruction cycle (R165 steps 0 to 2) and how a test or a loader places an instruction where the
next step fetches. -/

namespace Sys2Proof.Machine

open Sys2Proof

/-- Step 1 of R165 and the package decoder: the instruction decoded from the word fetched at IPMAR, and the state after the
fetch. -/
def fetchDecoded (s : State) : Except DecodeError Instr × State :=
  let f := s.fetch s.ipmar
  (decodePackage f.1, f.2)

/-- Step 2 of R165: a reserved format takes INVALID INSTRUCTION PACKAGE FORMAT (R167). -/
def refusedFormat (s : State) : State := s.raise .invalidInstructionPackageFormat

/-! ### Placing an instruction -/

/-- A package that holds an instruction word as its whole instructions: format 66 for 30 bits, 120 for 40, 144 for 50, 156 for
60 (R126). -/
def packageHolding : InstrWord → Word
  | .w30 b => asWord (n := 30+30+30+30+8) rfl (b ++ b ++ b ++ b ++ 66#8)
  | .w40 b => asWord (n := 40+40+40+8) rfl (b ++ b ++ b ++ 120#8)
  | .w50 b => asWord (n := 20+50+50+8) rfl (0#20 ++ b ++ b ++ 144#8)
  | .w60 b => asWord (n := 60+60+8) rfl (b ++ b ++ 156#8)

/-- The state with a package word where the next step fetches: in memory at IPMAR, that location backed, no superseded content
of it left to be seen, no interrupt pending before it. -/
def placePackage (s : State) (w : Word) : State :=
  let a := s.wordLocation s.ipmar
  ((((s.setXpend []).setStale (s.stale.filter fun p => p.1 != a)).setBacking (⟨a, a, true⟩ :: s.backing)).setMem
    (Memory.writeWord s.mem a w))

/-- n and l of that package (R126). -/
def shapeHolding : InstrWord → Shape
  | .w30 _ => ⟨4, .none⟩
  | .w40 _ => ⟨3, .none⟩
  | .w50 _ | .w60 _ => ⟨2, .none⟩

/-- The state with the code where the next step fetches it. An instruction word stands in a package of its own, which is entered by a
transfer at I:0; the shape of that package is in place already, so that the step is exec of the word's row (log 6). -/
def placeCode (s : State) : Code → State
  | .package w => placePackage s w
  | .instruction w =>
    ((placePackage s (packageHolding w)).setSequence s.ipmar 0 .transfer).setShape (shapeHolding w)

end Sys2Proof.Machine
end

