-- ==== Sys2Proof/Machine/Step.lean ====
section
/-! DEFINITION. `Step()` of R165. -/

namespace Sys2Proof.Machine

open Sys2Proof

/-- One turn of the instruction cycle (R160, R165): an interrupt is taken and the step ends, or a package is fetched, a reserved
format takes its exception, and the package's meaning does the rest. -/
def step (s : State) : Host.Outcome State Fault Refusal :=
  match s.interruptTurn with
  | (true, t) => .next t
  | (false, s0) =>
    match fetchDecoded s0 with
    | (.error _, s1) => .next (refusedFormat s1)
    | (.ok i, s1) => exec i s1

/-- The state with an instruction of the opcode table where step fetches its next instruction. -/
def State.withFetchWord (s : State) (nbits w : Nat) : State := placeCode s (tableCode nbits w)

end Sys2Proof.Machine
end

