-- ==== Sys2Proof/Machine/Amcm.lean ====
section
/-! DEFINITION. The orderings the Aura Memory Consistency Model enforces among the events of each initiator (20_memory.md section 13),
over the record `State.trace` and the dependences that execution makes, and the sets of accesses that a barrier separates. The model's
memory takes the accesses of all initiators in the order of the record (log 23), which keeps all of these orderings; what an observer
of a weaker memory could see besides is out of the model. -/

namespace Sys2Proof.Machine

open Sys2Proof

/-! ### Orderings between two events of one initiator -/

/-- A read or a write, not a memory ordering mechanism. -/
def isAccess : MemEvent → Bool
  | .read _ | .write _ => true
  | .barrier _ => false

/-- The event is one that this barrier orders before itself (R98 (a), (c), R258). -/
def orderedBefore (sel : BarrierSel) : MemEvent → Bool
  | .read _ => sel.readsBefore
  | .write _ => sel.writesBefore
  | .barrier _ => true

/-- The event is one that this barrier orders after itself (R98 (b), (c), R258). -/
def orderedAfter (sel : BarrierSel) : MemEvent → Bool
  | .read _ => sel.readsAfter
  | .write _ => sel.writesAfter
  | .barrier _ => true

/-- `first` precedes `second` in one initiator's program or operation order; does the AMCM enforce that order directly? R98 (a) to
(c) for barriers; R100 (d) to (f) for accesses to one word location, two reads excepted; R101 for a write that depends on a read, which
`dependent` says. -/
def ordered (first second : MemEvent) (dependent : Bool) : Bool :=
  match first, second with
  | .barrier sel, e => orderedAfter sel e
  | e, .barrier sel => orderedBefore sel e
  | .read a, .write b => a == b || dependent
  | .write a, .read b => a == b
  | .write a, .write b => a == b
  | .read _, .read _ => false

/-- What a stronger memory consistency model keeps in order besides (R10, U22). -/
def orderedByStronger (m : StrongerMcm) : MemEvent → MemEvent → Bool
  | .read _, .read _ => m.readRead
  | .read _, .write _ => m.readWrite
  | .write _, .read _ => m.writeRead
  | .write _, .write _ => m.writeWrite
  | .barrier _, _ | _, .barrier _ => false

namespace State

/-! ### The record -/

/-- What write number j depends on (R101). -/
def consumedBy (s : State) (j : Nat) : Consumed :=
  match s.depend.writes.find? fun e => e.1 == j with
  | some e => e.2
  | none => ⟨[], [], []⟩

/-- "A read value is consumed to produced the memory address for a memory access" (R101). -/
def addressDependent (s : State) (i j : Nat) : Bool := (s.consumedBy j).address.contains i

/-- "A read value is consumed by a control flow instruction or an equivalent mechanism that decides whether a memory access is initiated
or not" (R101, R270). -/
def controlDependent (s : State) (i j : Nat) : Bool := (s.consumedBy j).control.contains i

/-- "A read value is consumed by a write as the write value" (R101). -/
def dataDependent (s : State) (i j : Nat) : Bool := (s.consumedBy j).data.contains i

/-- Write number j depends on read number i (R101). -/
def dependent (s : State) (i j : Nat) : Bool :=
  s.addressDependent i j || s.controlDependent i j || s.dataDependent i j

/-- Event i precedes event j in the program or operation order of one initiator, and that order is enforced directly (R97, R98, R100,
R101, U22). A write before a read of the same location is ordered on its initiator only (R100 (e)). -/
def enforced (s : State) (i j : Nat) : Bool :=
  match s.event? i, s.event? j with
  | some a, some b =>
    decide (i < j) && a.initiator == b.initiator &&
      (ordered a.event b.event (s.dependent i j) || orderedByStronger s.impl.stronger a.event b.event)
  | _, _ => false

/-- Writes i and j to one location, by whomever, serialized in this order (R104). -/
def serialized (s : State) (i j : Nat) : Bool :=
  match s.event? i, s.event? j with
  | some ⟨_, .write a⟩, some ⟨_, .write b⟩ => decide (i < j) && a == b
  | _, _ => false

/-! ### Cumulativity (R103)

For a barrier M that is event number m; its selector cuts both sets down to the accesses it orders (R258). -/

/-- Set P: the accesses of M's user that precede M, and those of all others that were performed with respect to it before M, which
are those recorded before M. -/
def barrierBefore (s : State) (m : Nat) : List Nat :=
  match s.event? m with
  | some ⟨_, .barrier sel⟩ =>
    (List.range m).filter fun i =>
      match s.event? i with
      | some e => isAccess e.event && orderedBefore sel e.event
      | none => false
  | _ => []

/-- Event i is ordered before event j in one step: by an ordering of one initiator, by serialization, or because j is a barrier, of
whomever, and i is in its set P. -/
def precedes (s : State) (i j : Nat) : Bool :=
  s.enforced i j || s.serialized i j || (s.barrierBefore j).contains i

/-- The events ordered after event m through any number of such steps, "by implicit orderings or explicit memory ordering mechanisms",
those of others included (R103, D21). -/
def orderedAfterEvent (s : State) (m : Nat) : List Nat :=
  (List.range s.trace.length).foldl
    (fun acc j => if (m :: acc).any fun i => s.precedes i j then acc ++ [j] else acc) []

/-- Set S: the accesses of M's user that succeed M, and those of all others that are ordered after M. -/
def barrierAfter (s : State) (m : Nat) : List Nat :=
  match s.event? m with
  | some ⟨user, .barrier sel⟩ =>
    (List.range s.trace.length).filter fun j =>
      match s.event? j with
      | some e =>
        decide (m < j) && isAccess e.event &&
          (if e.initiator = user then orderedAfter sel e.event else (s.orderedAfterEvent m).contains j)
      | none => false
  | _ => []

end State

end Sys2Proof.Machine
end

