-- ==== Sys2Proof/Machine/Environment.lean ====
section
/-! DEFINITION. What other processors, agents and the platform can do to this processor's state between two of its steps
(R20, R82, R109, R332, R340). No step calls it: a statement about every state holds wherever these events lead. -/

namespace Sys2Proof.Machine

open Sys2Proof

/-- A memory access, or a memory ordering mechanism, of another processor or an agent, in the manner of this processor's (R97, R109).
A write says which of its initiator's own recorded reads it depends on, and how (R101). -/
inductive ForeignAccess where
  | readWord (wa : Word)
  | readOctets (oa : Word) (size : UnitSize)
  | writeWord (wa v : Word) (consumed : Consumed)
  | writeOctets (oa : Word) (size : UnitSize) (v : Word) (consumed : Consumed)
  /-- A STORE ATOMIC or its equivalent, whose conditions hold or do not. -/
  | storeAtomic (oa : Word) (size : UnitSize) (v : Word) (holds : Bool) (consumed : Consumed)
  /-- The same at a word address. -/
  | storeAtomicWord (wa v : Word) (holds : Bool) (consumed : Consumed)
  | barrier (sel : BarrierSel)
  deriving DecidableEq, Repr

/-- An event from outside the processor. -/
inductive EnvEvent where
  /-- An external interrupt of this level arrives (R332). -/
  | interruptArrives (p : Nat)
  /-- Another processor or an agent accesses memory (R60, R109). -/
  | accessed (initiator : Initiator) (a : ForeignAccess)
  /-- The word locations of a range become unbacked, word 0 excepted (R82, R83). -/
  | unbacked (first last : Nat)
  /-- A word location becomes backed; its content is then unpredictable (R82, R87). -/
  | backed (w : Nat)
  /-- The platform takes over the n-th of the sent interrupts, in any order (R273). -/
  | sentTaken (n : Nat)
  deriving DecidableEq, Repr

/-- Another processor or an agent that the system has; this processor is number 0 (R10). -/
def foreign (c : Impl) : Initiator → Bool
  | .self => false
  | .processor k => 1 ≤ k && k < c.nProcs
  | .agent k => k < c.nAgents

/-- The implemented memory-address bits of an initiator: all processors have the system's, an agent may have its own (R77, R79). -/
def addressBits (c : Impl) : Initiator → Nat
  | .self | .processor _ => c.nMem
  | .agent k =>
    match c.agentBits.find? fun p => p.1 == k with
    | some p => p.2
    | none => c.nMem

/-- The location that an address names for an initiator: the address modulo 2**N, with the initiator's own N (R78, R79). -/
def location (c : Impl) (who : Initiator) (a : Word) : Nat := a.toNat % 2 ^ addressBits c who

/-- The pending set after an arrival: an interrupt that arrives while reception is disabled is held or dropped, and none is held
beyond the capacity, as the implementation's policy says (D18, U25). A level outside 1 to PL_MAX does not occur (V-IE IE5). -/
def xpendAfter (s : State) (p : Nat) : List Nat :=
  if !(decide (1 ≤ p) && decide (p ≤ s.impl.plMax)) then s.xpend
  else if !s.xie && s.impl.xpendPolicy == .dropped then s.xpend
  else
    match s.impl.xpendCapacity with
    | none => p :: s.xpend
    | some n => if s.xpend.length < n then p :: s.xpend else s.xpend

/-- A write of another initiator: the unit, if its location is backed, the event, and what it depends on (R84, R106, R109). -/
def foreignWrite (s : State) (who : Initiator) (a n v : Nat) (c : Consumed) : State :=
  if s.isBacked (a / 16) then
    let t := (s.put a n v).noteBy who (.write (a / 16))
    t.setDepend { t.depend with writes := (s.trace.length, c) :: t.depend.writes }
  else s

/-- An octet-addressed access of another initiator: unaligned, it is not initiated (R71, R106). -/
def foreignAligned (s : State) (who : Initiator) (oa : Word) (size : UnitSize) (f : Nat → State) : State :=
  if aligned (location s.impl who oa) size.octets then f (location s.impl who oa) else s

/-- An access of another initiator, in its own address space (R79). A STORE ATOMIC whose conditions do not hold is not initiated
(R106). -/
def foreignAccess (s : State) (who : Initiator) : ForeignAccess → State
  | .readWord wa => s.noteBy who (.read (location s.impl who wa))
  | .readOctets oa size => foreignAligned s who oa size fun a => s.noteBy who (.read (a / 16))
  | .writeWord wa v c => foreignWrite s who (16 * location s.impl who wa) 16 v.toNat c
  | .writeOctets oa size v c => foreignAligned s who oa size fun a => foreignWrite s who a size.octets v.toNat c
  | .storeAtomic oa size v holds c =>
    if holds then foreignAligned s who oa size fun a => foreignWrite s who a size.octets v.toNat c else s
  | .storeAtomicWord wa v holds c => if holds then foreignWrite s who (16 * location s.impl who wa) 16 v.toNat c else s
  | .barrier sel => s.noteBy who (.barrier sel)

/-- The state after an event. -/
def applyEvent (e : EnvEvent) (s : State) : State :=
  match e with
  | .interruptArrives p => s.setXpend (xpendAfter s p)
  | .accessed who a => if foreign s.impl who then foreignAccess s who a else s
  | .unbacked first last => s.setBacking (⟨first, last, false⟩ :: s.backing)
  | .backed w =>
    if s.isBacked w || !decide (w < 2 ^ s.impl.nMem) then s
    else
      ((s.setBacking (⟨w, w, true⟩ :: s.backing)).setMem (Memory.writeWord s.mem w (Config.freeWord s.free))).drawn
  | .sentTaken n => s.setOutbox (s.outbox.eraseIdx n)

end Sys2Proof.Machine
end

