-- ==== Sys2Proof/Safety.lean ====
section
/-! DEFINITION. The invariant of the machine, and the words in which statements say what an instruction leaves unchanged. -/

namespace Sys2Proof.Machine

open Sys2Proof

/-- Every level in a save set is a level of the implementation (R38, R42). -/
def savedLevelsWithin (s : State) : Prop :=
  (∀ p, (s.esaveAt p).opl ≤ s.impl.plMax) ∧ (∀ p, (s.isaveAt p).opl ≤ s.impl.plMax)

/-- The invariant: a legal implementation (R10); memory in canonical form; OPL, saved and pending levels within PL_MAX (R38, R42,
R44); IPMAR an N_MEM-bit address (R23, R78, D2). -/
def Inv (s : State) : Prop :=
  s.impl.wf = true ∧ Memory.wf s.mem = true ∧ s.opl ≤ s.impl.plMax ∧ savedLevelsWithin s ∧
  (∀ p ∈ s.xpend, p ≤ s.impl.plMax) ∧ s.ipmar.toNat < 2 ^ s.impl.nMem

/-! ### What stays as it was -/

/-- Memory and what is known of its locations: every octet reads as before, and nothing was stored or backed. -/
def SameMemory (s t : State) : Prop :=
  (∀ a, t.octetAt a = s.octetAt a) ∧ t.backing = s.backing ∧ t.stale = s.stale

/-- The handlers and save sets (R40 to R43) are unchanged at every level. -/
def SameLevelState (s t : State) : Prop :=
  (∀ p, t.ehaAt p = s.ehaAt p) ∧ (∀ p, t.ihaAt p = s.ihaAt p) ∧
  (∀ p, t.esaveAt p = s.esaveAt p) ∧ (∀ p, t.isaveAt p = s.isaveAt p)

/-- The privileged state (R38 to R44) is unchanged. -/
def SamePrivileged (s t : State) : Prop :=
  t.opl = s.opl ∧ t.xie = s.xie ∧ SameLevelState s t ∧ t.xpend = s.xpend

/-- Nothing was sent, and the implementation is the same. -/
def SameOutside (s t : State) : Prop := t.outbox = s.outbox ∧ t.impl = s.impl

/-- Memory, privileged state and the outside are unchanged: what an instruction that only computes in registers leaves alone. -/
def OnlyRegistersMay (s t : State) : Prop :=
  SameMemory s t ∧ SamePrivileged s t ∧ SameOutside s t

/-- Besides, no memory event was noted: the instruction does not touch memory (R250). -/
def ComputesOnly (s t : State) : Prop := OnlyRegistersMay s t ∧ t.trace = s.trace

/-- GPRs, RNRs and CRs are unchanged. -/
def SameRegisters (s t : State) : Prop :=
  (∀ g : Fin 64, t.gpr[g] = s.gpr[g]) ∧ (∀ r : Fin 64, t.rnr[r] = s.rnr[r]) ∧ (∀ i : Fin 128, t.cr[i] = s.cr[i])

/-- The GPR a register lies in, if any. -/
def gprOf : Reg → Option (Fin 64)
  | .gpr g => some g
  | .sgpr i => some (fullOf i)
  | _ => none

/-- The RNR a register lies in, if any. -/
def rnrOf : Reg → Option (Fin 64)
  | .rnr r => some r
  | .srnr i => some (fullOf i)
  | _ => none

/-- Only register `r` was written: every other GPR and RNR, the other half of the register a semi-register lies in (R25, R32), and
every CR are unchanged. -/
def OnlyRegister (r : Reg) (s t : State) : Prop :=
  (∀ g : Fin 64, gprOf r ≠ some g → t.gpr[g] = s.gpr[g]) ∧
  (∀ q : Fin 64, rnrOf r ≠ some q → t.rnr[q] = s.rnr[q]) ∧
  (∀ i : Fin 128, (∀ g, r ≠ .gpr g) → r ≠ .sgpr i → t.sgpr i = s.sgpr i) ∧
  (∀ i : Fin 128, (∀ q, r ≠ .rnr q) → r ≠ .srnr i → t.srnr i = s.srnr i) ∧
  (∀ i : Fin 128, t.cr[i] = s.cr[i])

/-- Every octet outside the n octets at location a is unchanged, and all of them are if nothing was stored. -/
def OnlyOctets (stored : Bool) (a n : Nat) (s t : State) : Prop :=
  (∀ b, stored = false ∨ b < a ∨ a + n ≤ b → t.octetAt b = s.octetAt b) ∧ t.backing = s.backing

/-! ### Where a step goes -/

/-- The step moved on as `Advance()` says (R174). -/
def Advanced (s t : State) : Prop :=
  if s.iidx.val + 1 < s.shape.n then t.ipmar = s.ipmar ∧ t.iidx = s.iidx + 1 ∧ t.entry = s.entry
  else t.ipmar = trunc s.impl (s.ipmar + 1#128) ∧ t.iidx = 0 ∧ t.entry = .sequential s.shape.l

/-- The step went to a package at its first whole instruction as `ControlTransfer(target)` says (R176). -/
def TransferredTo (target : Word) (s t : State) : Prop :=
  t.ipmar = trunc s.impl target ∧ t.iidx = 0 ∧ t.entry = .transfer

/-- The exception `e` of level p was taken from s: R320 and R322, and R305 for what stays as it was. -/
def TookException (e : ExcId) (p : Nat) (s t : State) : Prop :=
  t.esaveAt p = ⟨s.opl, s.ipmar, s.iidx, s.impl.ceid.of e⟩ ∧ (∀ q, q ≠ p → t.esaveAt q = s.esaveAt q) ∧
  t.xie = false ∧ t.opl = max s.opl p ∧ TransferredTo (s.ehaAt p) s t ∧
  SameRegisters s t ∧ SameMemory s t ∧ SameOutside s t ∧ t.trace = s.trace ∧ t.xpend = s.xpend ∧
  (∀ q, t.ehaAt q = s.ehaAt q) ∧ (∀ q, t.ihaAt q = s.ihaAt q) ∧ (∀ q, t.isaveAt q = s.isaveAt q)

/-- An interrupt of level p was taken from s with the resume point (a, k): R331. -/
def TookInterrupt (p : Nat) (a : Word) (k : Fin 4) (s t : State) : Prop :=
  t.isaveAt p = ⟨s.opl, a, k⟩ ∧ (∀ q, q ≠ p → t.isaveAt q = s.isaveAt q) ∧
  t.xie = false ∧ t.opl = p ∧ TransferredTo (s.ihaAt p) s t ∧
  SameRegisters s t ∧ SameMemory s t ∧ SameOutside s t ∧ t.trace = s.trace ∧
  (∀ q, t.ehaAt q = s.ehaAt q) ∧ (∀ q, t.ihaAt q = s.ihaAt q) ∧ (∀ q, t.esaveAt q = s.esaveAt q)

/-- A two-valued outcome was delivered from s as a report says, and nothing else was done to registers or sequencing. What a form of
the implementation leaves in its register is free. -/
def Reported (r : Report) (ok : Bool) (s t : State) : Prop :=
  match r with
  | .register dst yes no =>
    (t.readReg dst).toNat = (if ok then yes else no).toNat % 2 ^ dst.width ∧ OnlyRegister dst s t ∧ Advanced s t
  | .bit dst n =>
    (∀ m < dst.width, (t.readReg dst).getLsbD m = if m = n.val then ok else (s.readReg dst).getLsbD m) ∧
    OnlyRegister dst s t ∧ Advanced s t
  | .carry i =>
    t.cr[(i.castLE (by decide) : Fin 128)] = ok ∧ (∀ j : Fin 128, j.val ≠ i.val → t.cr[j] = s.cr[j]) ∧
    (∀ g : Fin 64, t.gpr[g] = s.gpr[g]) ∧ (∀ q : Fin 64, t.rnr[q] = s.rnr[q]) ∧ Advanced s t
  | .transferIf sense target =>
    SameRegisters s t ∧ (if ok = sense then TransferredTo (s.address target) s t else Advanced s t)
  | .implementation _ dst => OnlyRegister dst s t ∧ Advanced s t

/-- The same of an outcome that need not be reported. -/
def ReportedIf (r : Option Report) (ok : Bool) (s t : State) : Prop :=
  match r with
  | some r => Reported r ok s t
  | none => SameRegisters s t ∧ Advanced s t

/-- Octet i of the unit stored or loaded at location a is octet i of the value, the first octet least significant (R68). -/
def HoldsUnit (t : State) (a n : Nat) (v : Word) : Prop := ∀ i < n, t.octetAt (a + i) = v.extractLsb' (8 * i) 8

/-! ### Words for dependences (R101) -/

/-- Two registers have a semi-register in common (R25, R32). -/
def Overlaps : Reg → Reg → Prop
  | .gpr g, .gpr h => g = h
  | .gpr g, .sgpr i => g = fullOf i
  | .sgpr i, .gpr g => g = fullOf i
  | .sgpr i, .sgpr j => i = j
  | .rnr q, .rnr r => q = r
  | .rnr q, .srnr i => q = fullOf i
  | .srnr i, .rnr q => q = fullOf i
  | .srnr i, .srnr j => i = j
  | _, _ => False

/-- The operand is a register that overlaps `r`. -/
def OperandReads (r : Reg) (o : Operand) : Prop := ∃ q, o = .reg q ∧ Overlaps r q

/-- The address is computed from `r`, as its base, its index, or either operand of another computation. -/
def AddressReads (r : Reg) : Address → Prop
  | .sum base index _ _ => OperandReads r base ∨ OperandReads r index
  | .implementation _ a b => OperandReads r a ∨ OperandReads r b

/-- The condition is decided from `r`. -/
def ConditionReads (r : Reg) : Condition → Prop
  | .always => False
  | .nonzero o | .zero o => OperandReads r o
  | .implementation _ a b => OperandReads r a ∨ OperandReads r b

/-- The second operand of a vector instruction is or comes from `r`. -/
def VecSourceReads (r : Reg) : VecSource → Prop
  | .vector q => Overlaps r q.toReg
  | .scalarLow o | .scalarImplementation _ o => OperandReads r o

/-- A load from `addr` into `r` that completes at s. -/
def LoadsFrom (i : Instr) (r : Reg) (addr : Address) (s : State) : Prop :=
  (∃ o, i = .loadWordAddressed o ∧ r = o.dst.toReg ∧ addr = o.addr ∧ o.priv ≤ s.opl) ∨
  ∃ o, i = .loadOctetAddressed o ∧ r = o.dst ∧ addr = o.addr ∧ o.priv ≤ s.opl ∧
    s.octetLocation (s.address addr) % o.size.octets = 0

/-- A store of `q` to `addr`, or a STORE ATOMIC, that completes at s and writes. -/
def StoresTo (i : Instr) (q : Reg) (addr : Address) (s : State) : Prop :=
  (∃ o, i = .storeWordAddressed o ∧ q = o.src.toReg ∧ addr = o.addr ∧ o.priv ≤ s.opl ∧
    s.isBacked (s.wordLocation (s.address addr)) = true) ∨
  (∃ o, i = .storeOctetAddressed o ∧ q = o.src ∧ addr = o.addr ∧ o.priv ≤ s.opl ∧
    s.octetLocation (s.address addr) % o.size.octets = 0 ∧ s.isBacked (s.octetLocation (s.address addr) / 16) = true) ∨
  ∃ o, i = .storeAtomic o ∧ q = o.src ∧ (o.target = .word addr ∨ ∃ size, o.target = .octets size addr) ∧ o.priv ≤ s.opl ∧
    atomicLocation o s % atomicOctets o = 0 ∧ s.isBacked (atomicLocation o s / 16) = true ∧ atomicHolds o s = true

/-- An instruction that computes from `r` into `q`, or loads into `q` from an address so computed, and completes at s. -/
def ComputesFrom (i : Instr) (r q : Reg) (s : State) : Prop :=
  (∃ o, i = .integerCarry o ∧ (OperandReads r o.a ∨ OperandReads r o.b) ∧ q = carryReg o.dst ∧ o.priv ≤ s.opl) ∨
  (∃ o, i = .vector o ∧ (Overlaps r o.a.toReg ∨ VecSourceReads r o.b) ∧ q = o.dst.toReg ∧ o.priv ≤ s.opl) ∨
  (∃ o, i = .elementExtract o ∧ (Overlaps r o.src ∨ OperandReads r o.select) ∧ q = o.dst ∧ o.priv ≤ s.opl ∧
    selectElement o.form o.type o.src.width (s.value o.select) ≠ .unaligned) ∨
  (∃ o, i = .elementDeposit o ∧ (Overlaps r o.dst ∨ OperandReads r o.value ∨ OperandReads r o.select) ∧ q = o.dst ∧
    o.priv ≤ s.opl ∧ selectElement o.form o.type o.dst.width (s.value o.select) ≠ .unaligned) ∨
  ∃ addr, LoadsFrom i q addr s ∧ AddressReads r addr

/-- Of what runs next at s, whatever stores `r` depends on read number n by data, whatever addresses its write by `r` does by address, and
each is ordered after it. -/
def WritesDepend (n : Nat) (r : Reg) (s : State) : Prop :=
  ∀ (i : Instr) (q : Reg) (addr : Address), StoresTo i q addr s → ∃ t, exec i s = .next t ∧
    (Overlaps r q → t.dataDependent n s.trace.length = true ∧ t.enforced n s.trace.length = true) ∧
    (AddressReads r addr → t.addressDependent n s.trace.length = true ∧ t.enforced n s.trace.length = true)

/-- Whatever writes next at s depends on read number n by control, and is ordered after it. -/
def WritesControlled (n : Nat) (s : State) : Prop :=
  ∀ (i : Instr) (q : Reg) (addr : Address), StoresTo i q addr s → ∃ t, exec i s = .next t ∧
    t.controlDependent n s.trace.length = true ∧ t.enforced n s.trace.length = true

/-! ### Words for packages and instructions of ISET -/

/-- No interrupt can be taken before the next instruction (R332). -/
def NoInterrupt (s : State) : Prop := s.xie = false ∨ s.xpend = []

/-- The length and value of an instruction word. -/
def lengthAndValue : InstrWord → Nat × Nat
  | .w30 b => (30, b.toNat)
  | .w40 b => (40, b.toNat)
  | .w50 b => (50, b.toNat)
  | .w60 b => (60, b.toNat)

/-- The value of a part. -/
def partValue : SpanPart → Nat
  | .none => 0
  | .p10 b => b.toNat
  | .p20 b => b.toNat
  | .p30 b => b.toNat
  | .p40 b => b.toNat
  | .p50 b => b.toNat

/-- The length and value of a Zero sub-field. -/
def zeroLengthAndValue : ZeroPart → Nat × Nat
  | .none => (0, 0)
  | .z10 b => (10, b.toNat)
  | .z20 b => (20, b.toNat)

/-- The row of the opcode table an instruction of ISET belongs to; none for the operations without carry and the composite ones
(logs 33, 42). -/
def instrOf : Op → Option Instr
  | .aviObtain o => some (.aviObtain o)
  | .aeQuery o => some (.aeQuery o)
  | .integerCarry o => some (.integerCarry o)
  | .vector o => some (.vector o)
  | .elementExtract o => some (.elementExtract o)
  | .elementDeposit o => some (.elementDeposit o)
  | .loadWordAddressed o => some (.loadWordAddressed o)
  | .storeWordAddressed o => some (.storeWordAddressed o)
  | .loadOctetAddressed o => some (.loadOctetAddressed o)
  | .storeOctetAddressed o => some (.storeOctetAddressed o)
  | .memoryBarrier o => some (.memoryBarrier o)
  | .storeAtomic o => some (.storeAtomic o)
  | .controlFlow o => some (.controlFlow o)
  | .internalInterrupt o => some (.internalInterrupt o)
  | .sendInterrupt o => some (.sendInterrupt o)
  | .null o => some (.null o)
  | .privilegedState o => some (.privilegedState o)
  | .scalar _ | .composite _ => none

/-- The package at IPMAR may be entered as it was: by a transfer, or sequentially from a package whose leading part its trailing
part agrees with (R169, R171). -/
def EntryAllowed (s : State) (p : Package) : Prop :=
  s.entry = .transfer ∨ ∃ l, s.entry = .sequential l ∧ agree l p.trail.len = true

/-- The exceptions have the levels of the base architecture (R311): none is redefined (R314). -/
def BaseLevels (s : State) : Prop := s.impl.levels = {}

end Sys2Proof.Machine
end

