-- ==== Sys2Proof/Certificates/Slice0/Obligations.lean ====
section
/-! DEFINITION. The statements for the provers. Each says in its docstring which rules of spec/ it rests on, and where it rests
on a choice of the model, which log entry that is. -/

open Sys2Proof Sys2Proof.Machine

/-! ### Encodings -/

/-- Decode and encode agree: no operand bit of any of the 157 package formats and 32 instruction-word rows is dropped (R126, R128,
R133). Exactly those rows have an encoding; the 17 named rows, to which the instructions of ISET belong, have none (R139). -/
def Obligations.DecodeAfterEncode : Prop :=
  (∀ (i : Instr) (c : Code), i.wf = true → encode i = some c → decode c = .ok i) ∧
  ∀ i : Instr, ((encode i).isSome = true ↔ i.package?.isSome = true ∨ ∃ w, decodeWord w = i) ∧
    (encode i = none ↔ ∃ op, instrOf op = some i)

/-- The other direction: what a package word or an instruction word decodes to has that word as its encoding (R126, R133). -/
def Obligations.EncodeAfterDecode : Prop :=
  ∀ (c : Code) (i : Instr), decode c = .ok i → encode i = some c

/-- The sub-fields of a decoded package stand where the format table says: T at the bottom of the payload, I:k at lo[k], L and Z at
the top, bit 0 least significant (R126, R127, R128). -/
def Obligations.PackageFieldsFollowTheTable : Prop :=
  ∀ (w : Word) (f : PackageFormat), formatOf w = some f →
    ∃ i p, decodePackage w = .ok i ∧ i.package? = some p ∧
      p.trail.len = f.t ∧ partValue p.trail = w.toNat / 2 ^ 8 % 2 ^ f.t.bits ∧
      p.whole.map lengthAndValue =
        (List.range f.whole.length).map
          (fun k => (f.whole.getD k 0, w.toNat / 2 ^ (8 + f.lo k) % 2 ^ f.whole.getD k 0)) ∧
      p.lead.len = f.l ∧ partValue p.lead = w.toNat / 2 ^ (128 - f.l.bits) % 2 ^ f.l.bits ∧
      zeroLengthAndValue p.zero = (f.z, w.toNat / 2 ^ (128 - f.z) % 2 ^ f.z) ∧ p.shape = ⟨f.count, f.l⟩

/-- The decoder refuses exactly the reserved Format codes 157 to 255 (R122, R136). -/
def Obligations.ReservedFormatsRefused : Prop :=
  ∀ w : Word, decodePackage w = .error .reservedFormat ↔ 157 ≤ w.toNat % 256

/-- Two parts make an instruction exactly if R130's `agree` holds of lengths above zero, and then it is the trailing part above the
leading part (R129, R130). -/
def Obligations.SpannedPartsJoin : Prop :=
  ∀ l t : SpanPart,
    (agree l.len t.len = true ↔
      (l.len.bits = 0 ∧ t.len.bits = 0) ∨
      (0 < l.len.bits ∧ 0 < t.len.bits ∧ l.len.bits + t.len.bits ∈ [30, 40, 50, 60])) ∧
    ((joinParts l t).isSome = true ↔ agree l.len t.len = true ∧ l.len ≠ .none) ∧
    ∀ w, joinParts l t = some w →
      lengthAndValue w = (l.len.bits + t.len.bits, partValue t * 2 ^ l.len.bits + partValue l)

/-- A few words written out from the spec decode to what they stand for: the format 66, 70, 8 and 67 packages of V-ST, and
instruction words of the rows I30-POPC7, I40-POPC7 and I60-POPC7 (R121, R126, R133). -/
def Obligations.SampleWordsDecode : Prop :=
  decodePackage 0x0000001C00000070000001C000000742#128 = .ok (.pkg66 7#30 7#30 7#30 7#30) ∧
  decodePackage 0x00001000000000F0000001C000000746#128 = .ok (.pkg70 7#30 7#30 0xF#40 1#20) ∧
  decodePackage 0x008000020F004000010F0000001FFF08#128 = .ok (.pkg8 0x3FF#10 7#30 0x004000010F#40 0x008000020F#40) ∧
  decodePackage 0x0005161C00000070000001C000000743#128 = .ok (.pkg67 7#30 7#30 7#30 0x14587#30) ∧
  decodeWord (.w30 0x00000057#30) = .i30Popc7 0xA#27 ∧
  decodeWord (.w40 0x0040014587#40) = .i40Popc7 0x080028B0#37 ∧
  decodeWord (.w60 0xFFFFFFFC0003F0F#60) = .i60Popc7 0x1FFFFFFF80007E1#57

/-! ### The step -/

/-- A step runs the decoded instruction: with no interrupt to take, step is exec of the instruction that the fetched package word
decodes to; the fetch adds at most one drawn free value, none where the word is backed and unsuperseded (R164, R165). -/
def Obligations.StepRunsTheDecodedInstruction : Prop :=
  ∀ (s : State) (i : Instr), NoInterrupt s →
    (s.isBacked (s.wordLocation s.ipmar) = true → s.oldContents (s.wordLocation s.ipmar) = [] →
      decodePackage (Memory.readWord s.mem (s.wordLocation s.ipmar)) = .ok i → step s = exec i s) ∧
    ((fetchDecoded s).1 = .ok i →
      step s = exec i (fetchDecoded s).2 ∧ ((fetchDecoded s).2 = s ∨ (fetchDecoded s).2 = s.drawn))

/-- With reception enabled and interrupts pending, the free choice of the step says which is taken: that one leaves the pending set and
its handler is entered; or none is, and the step goes on with the instruction (R331, R332; the choice is free: D18, log 22). -/
def Obligations.PendingInterruptMayBeTaken : Prop :=
  ∀ s : State, s.xie = true → s.xpend ≠ [] →
    (∀ p, s.xpend[Config.freeChoice s.free]? = some p →
      ∃ t, step s = .next t ∧ TookInterrupt p s.ipmar s.iidx s t ∧
        t.xpend = s.xpend.eraseIdx (Config.freeChoice s.free)) ∧
    (s.xpend[Config.freeChoice s.free]? = none →
      (∀ i s1, fetchDecoded s.drawn = (.ok i, s1) → step s = exec i s1) ∧
      ∀ x s1, fetchDecoded s.drawn = (.error x, s1) → step s = .next (refusedFormat s1))

/-- A package with a reserved Format code takes INVALID INSTRUCTION PACKAGE FORMAT of level 1; what is recorded is (IPMAR, IIDX) as
they stand (R167; D10, log 25). -/
def Obligations.ReservedFormatTraps : Prop :=
  ∀ s : State, NoInterrupt s → BaseLevels s → s.isBacked (s.wordLocation s.ipmar) = true →
    s.oldContents (s.wordLocation s.ipmar) = [] →
    157 ≤ (Memory.readWord s.mem (s.wordLocation s.ipmar)).toNat % 256 →
      ∃ t, step s = .next t ∧ TookException .invalidInstructionPackageFormat 1 s t

/-! ### The 157 package formats -/

/-- Every package row completes: where the package may be entered, its Zero sub-field is zero, and IIDX names a whole instruction
that the implementation recognises and OPL allows, the row answers the next state of that instruction, which is that of its named row
where it has one (R165, R128). -/
def Obligations.PackageRunsItsInstruction : Prop :=
  ∀ (i : Instr) (p : Package) (s : State) (w : InstrWord) (op : Op),
    i.package? = some p → EntryAllowed s p → p.zero.isZero = true → p.slot s.iidx.val = some (.whole w) →
    isetDecode s.impl w = some op → isetPriv s.impl op ≤ s.opl →
      ∃ t, exec i s = .next t ∧ exec (decodeWord w) (s.setShape p.shape) = .next t ∧
        ∀ j, instrOf op = some j → exec j (s.setShape p.shape) = .next t

/-- NULL completes and does nothing but advance, and so do all 189 encoded rows where that is the instruction: a package row whose IIDX
names a NULL, which advances by the package's n and l, and an instruction-word row of which ISET makes a NULL (R165, R174, R274; that
NULL has no effect is DEDUCED, log 20). -/
def Obligations.EveryRowCompletesWithNull : Prop :=
  (∀ (o : NullOp) (s : State), o.priv ≤ s.opl →
    ∃ t, exec (.null o) s = .next t ∧ SameRegisters s t ∧ ComputesOnly s t ∧ Advanced s t) ∧
  (∀ (i : Instr) (p : Package) (s : State) (w : InstrWord) (o : NullOp),
    i.package? = some p → EntryAllowed s p → p.zero.isZero = true → p.slot s.iidx.val = some (.whole w) →
    isetDecode s.impl w = some (.null o) → o.priv ≤ s.opl →
      ∃ t, exec i s = .next t ∧ ComputesOnly s t ∧ SameRegisters s t ∧ Advanced (s.setShape p.shape) t) ∧
  ∀ (w : InstrWord) (s : State) (o : NullOp), isetDecode s.impl w = some (.null o) → o.priv ≤ s.opl →
    ∃ t, exec (decodeWord w) s = .next t ∧ ComputesOnly s t ∧ SameRegisters s t ∧ Advanced s t

/-- A leading part is completed from the package at the next word address, which may be word 0 (R129, R170, R175), and the
instruction so made is run with IPMAR and IIDX still naming the leading part. -/
def Obligations.SpannedPackageRunsItsInstruction : Prop :=
  ∀ (i : Instr) (p : Package) (s : State) (l : SpanPart) (w : InstrWord) (op : Op),
    i.package? = some p → EntryAllowed s p → p.zero.isZero = true → p.slot s.iidx.val = some (.leading l) →
    joinParts l (trailOf (s.fetch (s.ipmar + 1#128)).1) = some w →
    isetDecode s.impl w = some op → isetPriv s.impl op ≤ s.opl →
      ∃ t, exec i s = .next t ∧ exec (decodeWord w) ((s.fetch (s.ipmar + 1#128)).2.setShape p.shape) = .next t ∧
        ∀ j, instrOf op = some j → exec j ((s.fetch (s.ipmar + 1#128)).2.setShape p.shape) = .next t

/-- A leading part that the next package does not complete takes INVALID SPANNED INSTRUCTION at the leading part's place (R170;
reserved format of the next package: D11; level 1: D8; log 25). -/
def Obligations.UncompletedLeadingPartTraps : Prop :=
  ∀ (i : Instr) (p : Package) (s : State) (l : SpanPart),
    i.package? = some p → BaseLevels s → EntryAllowed s p → p.zero.isZero = true →
    p.slot s.iidx.val = some (.leading l) → joinParts l (trailOf (s.fetch (s.ipmar + 1#128)).1) = none →
      ∃ t, exec i s = .next t ∧ TookException .invalidSpannedInstruction 1 s t

/-- The package checks, at every IIDX and whatever else is wrong: a package entered sequentially whose T does not agree with the L of
the package before takes INVALID SPANNED INSTRUCTION; one that may be entered but whose Zero sub-field is not zero takes INVALID
INSTRUCTION PACKAGE before any of its instructions (R168, R169; D8, D9, D10, D12: log 25). -/
def Obligations.PackageChecksTrap : Prop :=
  ∀ (i : Instr) (p : Package) (s : State), i.package? = some p → BaseLevels s →
    (∀ l, s.entry = .sequential l → agree l p.trail.len = false →
      ∃ t, exec i s = .next t ∧ TookException .invalidSpannedInstruction 1 s t) ∧
    (EntryAllowed s p → p.zero.isZero = false →
      ∃ t, exec i s = .next t ∧ TookException .invalidInstructionPackage 1 s t)

/-- The instruction a package names takes INVALID INSTRUCTION where it is not recognised, INSUFFICIENT PRIVILEGE where OPL is too
low for it (R172, R173, R165 steps 7 and 8). -/
def Obligations.PackageInstructionTraps : Prop :=
  ∀ (i : Instr) (p : Package) (s : State) (w : InstrWord),
    i.package? = some p → BaseLevels s → EntryAllowed s p → p.zero.isZero = true →
    p.slot s.iidx.val = some (.whole w) →
      (isetLines s.impl w = [] → ∃ t, exec i s = .next t ∧ TookException .invalidInstruction 1 s t) ∧
      ∀ op, isetDecode s.impl w = some op → s.opl < isetPriv s.impl op →
        ∃ t, exec i s = .next t ∧ TookException .insufficientPrivilege (s.opl + 1) s t

/-- The two refusals. Where IIDX names no instruction of the package "no rule of the source applies" (R178; D30, log 26). Where ISET has
two recognised lines for a word, the implementation "is outside the model" (R202, U18; log 31), and a legal one has none (R137). -/
def Obligations.MissingIndexRefused : Prop :=
  (∀ (i : Instr) (p : Package) (s : State),
    i.package? = some p → EntryAllowed s p → p.zero.isZero = true → p.shape.n ≤ s.iidx.val →
      exec i s = .refused .noInstructionAtIndex) ∧
  (∀ (w : InstrWord) (s : State), 2 ≤ (isetLines s.impl w).length →
    exec (decodeWord w) s = .refused .conflictingEncodings) ∧
  ∀ (c : Impl) (w : InstrWord), c.wf = true → (isetLines c w).length ≤ 1

/-! ### The 32 rows of instruction words -/

/-- Every row of (length, primary operation code) completes as the instruction ISET gives the word, where OPL allows it, and as its
named row where it has one (R133, R163, R165 steps 7 to 9). -/
def Obligations.InstructionWordRuns : Prop :=
  ∀ (w : InstrWord) (s : State) (op : Op), isetDecode s.impl w = some op → isetPriv s.impl op ≤ s.opl →
    ∃ t, exec (decodeWord w) s = .next t ∧ t = s.conclude (isetFlow op) (isetExec op s) ∧
      ∀ j, instrOf op = some j → exec j s = .next t

/-- "A precise exception (INVALID INSTRUCTION) is generated when an unrecognized instruction is encountered", of level 1 (R172), with
what entry saves and where it goes (R320). That OPL becomes the greater of OPL and 1 is D15 (R324, log 28). -/
def Obligations.UnrecognisedInstructionTraps : Prop :=
  ∀ (w : InstrWord) (s : State), BaseLevels s → isetLines s.impl w = [] →
    ∃ t, exec (decodeWord w) s = .next t ∧ TookException .invalidInstruction 1 s t

/-- The privilege check of R302: a recognised instruction of a level above OPL takes INSUFFICIENT PRIVILEGE of level OPL + 1, or of a
higher one where an extension redefined it (R314). That the level never exceeds PL_MAX is the spec's own inference in R302, and holds of a
legal implementation (Impl.wf; what is recognised: log 31); OPL after entry: D15, log 28. -/
def Obligations.InsufficientPrivilegeTraps : Prop :=
  ∀ (w : InstrWord) (s : State) (op : Op), s.impl.wf = true → isetDecode s.impl w = some op →
    s.opl < isetPriv s.impl op →
      s.opl + 1 ≤ s.impl.levelOf s.opl .insufficientPrivilege ∧
      s.impl.levelOf s.opl .insufficientPrivilege ≤ s.impl.plMax ∧
      (BaseLevels s → s.impl.levelOf s.opl .insufficientPrivilege = s.opl + 1) ∧
      ∃ t, exec (decodeWord w) s = .next t ∧
        TookException .insufficientPrivilege (s.impl.levelOf s.opl .insufficientPrivilege) s t

/-- The same check in each of the 17 named rows: below the level the row has; for interrupt-sending below PL_MAX; for privileged state
of level p below p and below 1, for lowering OPL to q below q and below 1, and for XIE and coherence below 1 (R302, R273, R275, R333; that
XIE needs 1 is D5, that coherence and lowering do is log 21; that setting OPL to a q above it traps, where R275 and R333 speak of a q up
to OPL only, is the model's choice: log 21). The level is OPL + 1 unless redefined (R314). -/
def Obligations.NamedRowsCheckPrivilege : Prop :=
  ∀ s : State,
    let traps := fun j : Instr => ∃ t, exec j s = .next t ∧
      TookException .insufficientPrivilege (s.impl.levelOf s.opl .insufficientPrivilege) s t
    (BaseLevels s → s.impl.levelOf s.opl .insufficientPrivilege = s.opl + 1) ∧
    (∀ (op : Op) (j : Instr), instrOf op = some j → (∀ o, op ≠ .sendInterrupt o) → (∀ o, op ≠ .privilegedState o) →
      s.opl < op.privField → traps j) ∧
    (s.opl < s.impl.plMax → ∀ o, traps (.sendInterrupt o)) ∧
    (∀ p, s.opl < max 1 p →
      (∀ src, traps (.privilegedState ⟨.setEha p src⟩) ∧ traps (.privilegedState ⟨.setIha p src⟩)) ∧
      (∀ f dst, traps (.privilegedState ⟨.readEsave p f dst⟩)) ∧ (∀ f dst, traps (.privilegedState ⟨.readIsave p f dst⟩)) ∧
      (∀ f src, traps (.privilegedState ⟨.writeEsave p f src⟩)) ∧ (∀ f src, traps (.privilegedState ⟨.writeIsave p f src⟩)) ∧
      traps (.privilegedState ⟨.exceptionReturn p⟩) ∧ traps (.privilegedState ⟨.interruptReturn p⟩) ∧
      ∀ target, traps (.privilegedState ⟨.lowerOpl p target⟩)) ∧
    (s.opl < 1 → (∀ on, traps (.privilegedState ⟨.setXie on⟩)) ∧ traps (.privilegedState ⟨.enforceCoherence⟩))

/-- What is recognised: the one line of its word that counts. A base instruction stands on a base code and is none of the mechanisms that
extensions supply; an extension's is implemented and stands on a reserved code, or, in a standard extension (AEN 1), on a base code that
no base instruction of its length uses, so that none is redefined; privileged state needs a reserved code (R133, R136, R137, R202, R204,
R273, R275; the reading of "implemented" and "reserved for future use" is log 31). -/
def Obligations.ReservedCodesNeedAnExtension : Prop :=
  ∀ (c : Impl) (w : InstrWord) (op : Op), isetDecode c w = some op →
    ∃ e ∈ c.iset, e.word = w ∧ e.op = op ∧
      (∀ e' ∈ c.iset, e'.word = w → recognised c e' = true → e' = e) ∧
      (e.owner = .base →
        reservedForExtensions w = false ∧ (∀ o, op ≠ .privilegedState o) ∧ (∀ o, op ≠ .sendInterrupt o) ∧
          ∀ o, op = .composite o → ∀ a ∈ o.actions, a.action.privileged = false ∧ a.action.sends = false) ∧
      ∀ aen aei, e.owner = .extension aen aei →
        (aen = 0#64 ∨ (aen, aei) ∈ c.aeSet) ∧
        (reservedForExtensions w = true ∨
          (aen = 1#64 ∧ (∀ o, op ≠ .privilegedState o) ∧
            (∀ o, op = .composite o → ∀ a ∈ o.actions, a.action.privileged = false) ∧
            ∀ b ∈ c.iset, b.owner = .base → wordLength b.word = wordLength w → primaryCode b.word ≠ primaryCode w))

/-! ### Version and extensions -/

/-- AVI-OBTAIN completes: the low 64 bits of the destination are the AVI, nothing else is written; zero extension, where ISET has it,
makes the rest zero (R200; extension: log 14). -/
def Obligations.AviObtainCompletes : Prop :=
  ∀ (o : AviObtain) (s : State), o.priv ≤ s.opl →
    ∃ t, exec (.aviObtain o) s = .next t ∧
      (t.readReg o.dst).extractLsb' 0 64 = s.impl.avi ∧
      (o.ext = .zero → t.readReg o.dst = s.impl.avi.setWidth 128) ∧
      OnlyRegister o.dst s t ∧ ComputesOnly s t ∧ Advanced s t

/-- AE-QUERY completes: what is reported is whether the pair of 64-bit identifiers is in AE_SET (R201; the forms of the report: log 10;
that the low 64 bits of wider operands count: log 38). -/
def Obligations.AeQueryCompletes : Prop :=
  ∀ (o : AeQuery) (s : State), (Instr.aeQuery o).wf = true → o.priv ≤ s.opl →
    ∃ t, exec (.aeQuery o) s = .next t ∧
      Reported o.report (decide (((s.value o.aen).setWidth 64, (s.value o.aei).setWidth 64) ∈ s.impl.aeSet)) s t ∧
      ComputesOnly s t

/-! ### Integers and carries -/

/-- A 129-bit result to a GPR completes as `CarryWriteGPR`: the GPR and CR[g] take it; the two CRs of the overwritten SGPRs, CR[g]
apart, become 0 from 64 up and are free below; nothing else is written (R29, R214; D14, log 8; that a source in a 64-bit register is
zero-extended: log 38). -/
def Obligations.CarryResultToGpr : Prop :=
  ∀ (o : IntegerCarry) (g : Fin 64) (s : State), o.dst = .gpr g → o.priv ≤ s.opl →
    ∃ t, exec (.integerCarry o) s = .next t ∧
      (let r := result129 o.op (s.value o.a) (s.value o.b) (o.carryIn.map fun i => s.cr[i])
       t.gpr[g] = r.setWidth 128 ∧ t.cr[(g.castLE (by decide) : Fin 128)] = r.getLsbD 128) ∧
      (∀ k : Fin 128, k.val ≠ g.val → k.val ≠ 2 * g.val → k.val ≠ 2 * g.val + 1 → t.cr[k] = s.cr[k]) ∧
      (∀ k : Fin 128, k.val ≠ g.val → (k.val = 2 * g.val ∨ k.val = 2 * g.val + 1) → 64 ≤ k.val → t.cr[k] = false) ∧
      (∀ h : Fin 64, h ≠ g → t.gpr[h] = s.gpr[h]) ∧ (∀ q : Fin 64, t.rnr[q] = s.rnr[q]) ∧
      ComputesOnly s t ∧ Advanced s t

/-- A 65-bit result to an SGPR completes: the SGPR takes the low 64 bits, its own CR bit 64; the other half of the GPR, every other
register and every other CR are unchanged (R28, R214). That the result is one of the low 64 bits of both sources is the model's choice:
R214 does not give the source operands (log 38). -/
def Obligations.CarryResultToSgpr : Prop :=
  ∀ (o : IntegerCarry) (i : Fin 128) (s : State), o.dst = .sgpr i → o.priv ≤ s.opl →
    ∃ t, exec (.integerCarry o) s = .next t ∧
      (let r := result65 o.op ((s.value o.a).setWidth 64) ((s.value o.b).setWidth 64) (o.carryIn.map fun k => s.cr[k])
       t.sgpr i = r.setWidth 64 ∧ t.cr[i] = r.getLsbD 64) ∧
      (∀ k : Fin 128, k ≠ i → t.sgpr k = s.sgpr k ∧ t.cr[k] = s.cr[k]) ∧
      (∀ h : Fin 64, h ≠ fullOf i → t.gpr[h] = s.gpr[h]) ∧ (∀ q : Fin 64, t.rnr[q] = s.rnr[q]) ∧
      ComputesOnly s t ∧ Advanced s t

/-- The results named by the model are exact, one bit wider than the operands: a sum with or without its carry-in, and a difference, where
a carry-in takes the place of the one of the two's complement, whose top bit says that there is no borrow (R214's example, R215, the
fixture's ADD and SUB; log 11). -/
def Obligations.CarryResultsAreExact : Prop :=
  (∀ (a b : Word) (c : Bool),
    (result129 .sum a b none).toNat = a.toNat + b.toNat ∧
    (result129 .sum a b (some c)).toNat = a.toNat + b.toNat + c.toNat ∧
    (result129 .difference a b none).toNat + b.toNat = a.toNat + 2 ^ 128 ∧
    ((result129 .difference a b none).getLsbD 128 = true ↔ b.toNat ≤ a.toNat) ∧
    (result129 .difference a b (some c)).toNat + b.toNat + 1 = a.toNat + 2 ^ 128 + c.toNat ∧
    ((result129 .difference a b (some c)).getLsbD 128 = true ↔ b.toNat < a.toNat + c.toNat)) ∧
  ∀ (a b : SemiWord) (c : Bool),
    (result65 .sum a b none).toNat = a.toNat + b.toNat ∧
    (result65 .sum a b (some c)).toNat = a.toNat + b.toNat + c.toNat ∧
    (result65 .difference a b none).toNat + b.toNat = a.toNat + 2 ^ 64 ∧
    ((result65 .difference a b none).getLsbD 64 = true ↔ b.toNat ≤ a.toNat) ∧
    (result65 .difference a b (some c)).toNat + b.toNat + 1 = a.toNat + 2 ^ 64 + c.toNat ∧
    ((result65 .difference a b (some c)).getLsbD 64 = true ↔ b.toNat < a.toNat + c.toNat)

/-! ### Vectors and elements -/

/-- A vector instruction completes: each element of the result is the operation on the elements of the operands as they stood
before, cut to the element's size, so nothing passes between elements and a scalar that is also the destination is read once;
no CR is written (R230, R231, R233, R234; CRs: D14). A 'T' field T gives 2**(T+1) elements of 64 / 2**T bits (R232). -/
def Obligations.VectorCompletes : Prop :=
  ∀ (o : VectorClass) (s : State), o.priv ≤ s.opl →
    ∃ t, exec (.vector o) s = .next t ∧
      (∀ f, o.typeField = .field f →
        o.type.count = 2 ^ (f.toNat + 1) ∧ o.type.elemBits * 2 ^ f.toNat = 64) ∧
      (∀ i < o.type.count,
        elem (t.readReg o.dst.toReg) o.type i =
          ((vecOpOf o.op o.type (elem (s.readReg o.a.toReg) o.type i) (s.vecSource o.type o.b i)).extractLsb'
            0 o.type.elemBits).setWidth 64) ∧
      OnlyRegister o.dst.toReg s t ∧ ComputesOnly s t ∧ Advanced s t

/-- An element extraction completes unless its select is unaligned; for a select by number or by octet offset that names element i
of the source, the low bits of the destination are that element, elem of R231. R240 does not assert the operation: that the extracted
value is elem, the forms of the select and which of them are unaligned are the model's choice (log 13), and so are the extension (log 14)
and that an SGPR or SRNR is a source, as holding the elements that fit in it (log 39). -/
def Obligations.ElementExtractCompletes : Prop :=
  ∀ (o : ElementExtract) (s : State), o.priv ≤ s.opl →
    selectElement o.form o.type o.src.width (s.value o.select) ≠ .unaligned →
    ∃ t, exec (.elementExtract o) s = .next t ∧
      (∀ i, o.type.elemBits * (i + 1) ≤ o.src.width →
        (o.form = .index ∧ (s.value o.select).toNat = i) ∨
        (o.form = .octetOffset ∧ (s.value o.select).toNat = o.type.elemBits / 8 * i) →
        (t.readReg o.dst).extractLsb' 0 o.type.elemBits =
          (s.readReg o.src).extractLsb' (o.type.elemBits * i) o.type.elemBits) ∧
      (o.ext = .zero → (t.readReg o.dst).toNat < 2 ^ o.type.elemBits) ∧
      OnlyRegister o.dst s t ∧ ComputesOnly s t ∧ Advanced s t

/-- An element deposition completes unless its select is unaligned; for a select that names element i of the destination, that
element becomes the value and every other element stays. R241 does not assert the operation: that it is setelem of R231, so that the
others stay, the forms of the select and which of them are unaligned are the model's choice (log 13), and so is that an SGPR or SRNR is
a destination, as holding the elements that fit in it (log 39). -/
def Obligations.ElementDepositCompletes : Prop :=
  ∀ (o : ElementDeposit) (s : State), o.priv ≤ s.opl →
    selectElement o.form o.type o.dst.width (s.value o.select) ≠ .unaligned →
    ∃ t, exec (.elementDeposit o) s = .next t ∧
      (∀ i, o.type.elemBits * (i + 1) ≤ o.dst.width →
        (o.form = .index ∧ (s.value o.select).toNat = i) ∨
        (o.form = .octetOffset ∧ (s.value o.select).toNat = o.type.elemBits / 8 * i) →
        elem (t.readReg o.dst) o.type i = ((s.value o.value).extractLsb' 0 o.type.elemBits).setWidth 64 ∧
        ∀ j, j < o.type.count → j ≠ i → elem (t.readReg o.dst) o.type j = elem (s.readReg o.dst) o.type j) ∧
      OnlyRegister o.dst s t ∧ ComputesOnly s t ∧ Advanced s t

/-- A select by octet offset that is no multiple of the element's size takes UNALIGNED ELEMENT SELECT of level 1 in both families
(R242; the condition and the level are the model's choice: D8, log 13). -/
def Obligations.UnalignedSelectTraps : Prop :=
  ∀ s : State, BaseLevels s →
    (∀ o : ElementExtract, o.priv ≤ s.opl → o.form = .octetOffset →
      (s.value o.select).toNat % (o.type.elemBits / 8) ≠ 0 →
        ∃ t, exec (.elementExtract o) s = .next t ∧ TookException .unalignedElementSelect 1 s t) ∧
    ∀ o : ElementDeposit, o.priv ≤ s.opl → o.form = .octetOffset →
      (s.value o.select).toNat % (o.type.elemBits / 8) ≠ 0 →
        ∃ t, exec (.elementDeposit o) s = .next t ∧ TookException .unalignedElementSelect 1 s t

/-! ### Memory -/

/-- A word load completes on every word location: from a backed one the register holds the sixteen octets of the word, the lowest
least significant; from an unbacked one any value, without an exception (R251, R90, R84, R68). -/
def Obligations.LoadWordCompletes : Prop :=
  ∀ (o : LoadWord) (s : State), o.priv ≤ s.opl →
    ∃ t, exec (.loadWordAddressed o) s = .next t ∧
      (s.isBacked (s.wordLocation (s.address o.addr)) = true →
        HoldsUnit s (16 * s.wordLocation (s.address o.addr)) 16 (t.readReg o.dst.toReg)) ∧
      OnlyRegister o.dst.toReg s t ∧ OnlyRegistersMay s t ∧
      t.trace = ⟨.self, .read (s.wordLocation (s.address o.addr))⟩ :: s.trace ∧ Advanced s t

/-- A word store completes on every word location: a backed one holds the register's sixteen octets and nothing else of memory
changes; an unbacked one is not written and no write event is noted (R253, R90, R84). -/
def Obligations.StoreWordCompletes : Prop :=
  ∀ (o : StoreWord) (s : State), o.priv ≤ s.opl →
    ∃ t, exec (.storeWordAddressed o) s = .next t ∧
      (let w := s.wordLocation (s.address o.addr)
       (s.isBacked w = true → HoldsUnit t (16 * w) 16 (s.readReg o.src.toReg) ∧ t.trace = ⟨.self, .write w⟩ :: s.trace) ∧
       (s.isBacked w = false → t.trace = s.trace) ∧ OnlyOctets (s.isBacked w) (16 * w) 16 s t) ∧
      SameRegisters s t ∧ SamePrivileged s t ∧ SameOutside s t ∧ Advanced s t

/-- An octet-addressed load of an aligned unit completes: the low 8n bits of the register are the n octets from the address on, the
first least significant; unbacked, any value (R252, R91, R68, R84; extension: log 14). -/
def Obligations.LoadOctetCompletes : Prop :=
  ∀ (o : LoadOctet) (s : State), (Instr.loadOctetAddressed o).wf = true → o.priv ≤ s.opl →
    s.octetLocation (s.address o.addr) % o.size.octets = 0 →
    ∃ t, exec (.loadOctetAddressed o) s = .next t ∧
      (let a := s.octetLocation (s.address o.addr)
       (s.isBacked (a / 16) = true → HoldsUnit s a o.size.octets (t.readReg o.dst)) ∧
       t.trace = ⟨.self, .read (a / 16)⟩ :: s.trace) ∧
      OnlyRegister o.dst s t ∧ OnlyRegistersMay s t ∧ Advanced s t

/-- An octet-addressed store of an aligned unit completes: the n octets from the address on become the low octets of the register,
the rest of the word and of memory stays; unbacked, nothing is written (R254, R91, R68, R84). -/
def Obligations.StoreOctetCompletes : Prop :=
  ∀ (o : StoreOctet) (s : State), (Instr.storeOctetAddressed o).wf = true → o.priv ≤ s.opl →
    s.octetLocation (s.address o.addr) % o.size.octets = 0 →
    ∃ t, exec (.storeOctetAddressed o) s = .next t ∧
      (let a := s.octetLocation (s.address o.addr)
       (s.isBacked (a / 16) = true →
         HoldsUnit t a o.size.octets (s.readReg o.src) ∧ t.trace = ⟨.self, .write (a / 16)⟩ :: s.trace) ∧
       (s.isBacked (a / 16) = false → t.trace = s.trace) ∧
       OnlyOctets (s.isBacked (a / 16)) a o.size.octets s t) ∧
      SameRegisters s t ∧ SamePrivileged s t ∧ SameOutside s t ∧ Advanced s t

/-- An unaligned octet address takes UNALIGNED PRIMARY MEMORY ADDRESS of level 1 in loads, stores and octet-addressed STORE ATOMIC,
backed or not: no memory operation is performed and no event noted (R71, R91, R106, R259; before the backing check: D12, log 25). -/
def Obligations.UnalignedAddressTraps : Prop :=
  ∀ s : State, BaseLevels s →
    (∀ o : LoadOctet, o.priv ≤ s.opl → s.octetLocation (s.address o.addr) % o.size.octets ≠ 0 →
      ∃ t, exec (.loadOctetAddressed o) s = .next t ∧ TookException .unalignedPrimaryMemoryAddress 1 s t) ∧
    (∀ o : StoreOctet, o.priv ≤ s.opl → s.octetLocation (s.address o.addr) % o.size.octets ≠ 0 →
      ∃ t, exec (.storeOctetAddressed o) s = .next t ∧ TookException .unalignedPrimaryMemoryAddress 1 s t) ∧
    ∀ (o : StoreAtomic) (size : UnitSize) (addr : Address), o.target = .octets size addr → o.priv ≤ s.opl →
      s.octetLocation (s.address addr) % size.octets ≠ 0 →
      ∃ t, exec (.storeAtomic o) s = .next t ∧ TookException .unalignedPrimaryMemoryAddress 1 s t

/-- MEMORY BARRIER completes: no register or memory location is read or written; the barrier joins the record, and what its selector
orders of the accesses recorded before it, this processor's and all others', is its set P. Its set S is empty yet, and whatever is
recorded later joins it or not: an access of this processor if the selector orders it, one of another initiator if a chain of orderings
reaches it from the barrier, each of one initiator, of two writes to one location, or of an access before another's barrier. Two writes
to one location, by whomever, are serialized as they are recorded, and no other events are (R258, R98, R103, R104; the selector: log 16;
that what is recorded was performed with respect to the barrier's user, and that the record is the serial order: log 23). -/
def Obligations.MemoryBarrierCompletes : Prop :=
  ∀ (o : MemoryBarrier) (s : State), o.priv ≤ s.opl →
    let m := s.trace.length
    ∃ t, exec (.memoryBarrier o) s = .next t ∧ t.trace = ⟨.self, .barrier o.sel⟩ :: s.trace ∧
      (∀ i, i ∈ t.barrierBefore m ↔
        ∃ e, s.event? i = some e ∧ isAccess e.event = true ∧ orderedBefore o.sel e.event = true) ∧
      t.barrierAfter m = [] ∧
      (∀ (u : State) (later : List Noted), u.trace = later ++ t.trace → ∀ j e, u.event? j = some e →
        (e.initiator = .self →
          (j ∈ u.barrierAfter m ↔ m < j ∧ isAccess e.event = true ∧ orderedAfter o.sel e.event = true)) ∧
        (e.initiator ≠ .self →
          (j ∈ u.barrierAfter m ↔ isAccess e.event = true ∧
            Relation.TransGen
              (fun i k => u.enforced i k = true ∨ u.serialized i k = true ∨ i ∈ u.barrierBefore k) m j)) ∧
        ∀ i d, u.event? i = some d →
          (u.serialized i j = true ↔ i < j ∧ ∃ w, d.event = .write w ∧ e.event = .write w)) ∧
      SameRegisters s t ∧ OnlyRegistersMay s t ∧ Advanced s t

/-- STORE ATOMIC completes on an aligned location: unbacked, it fails; backed, it writes the unit and succeeds or fails, as the
implementation's condition says; a failure writes nothing, notes nothing, and is reported as one (R259, R84, R106; the conditions are
free and the report's form is the model's: log 15). -/
def Obligations.StoreAtomicCompletes : Prop :=
  ∀ (o : StoreAtomic) (s : State), (Instr.storeAtomic o).wf = true → o.priv ≤ s.opl →
    atomicLocation o s % atomicOctets o = 0 →
    ∃ t, exec (.storeAtomic o) s = .next t ∧
      (let a := atomicLocation o s
       let ok := s.isBacked (a / 16) && atomicHolds o s
       ReportedIf o.report ok s t ∧
       (if ok = true then HoldsUnit t a (atomicOctets o) (s.readReg o.src) ∧ t.trace = ⟨.self, .write (a / 16)⟩ :: s.trace
        else t.trace = s.trace ∧ SameMemory s t) ∧
       OnlyOctets ok a (atomicOctets o) s t) ∧
      SamePrivileged s t ∧ SameOutside s t

/-- Units are little-endian and every view of memory agrees: octet i of a unit is at address a + i, a narrower access sees its bits of
the containing word, and a word read by octet address is the word read by word address (R68). -/
def Obligations.LittleEndianViews : Prop :=
  (∀ (s : State) (oa : Word) (size : UnitSize), s.octetLocation oa % size.octets = 0 →
    s.isBacked (s.octetLocation oa / 16) = true →
    ∃ v t, s.memRead oa size = some (v, t) ∧ HoldsUnit s (s.octetLocation oa) size.octets v ∧
      v.toNat = (Memory.readWord s.mem (s.octetLocation oa / 16)).toNat / 2 ^ (8 * (s.octetLocation oa % 16)) %
        2 ^ (8 * size.octets)) ∧
  ∀ (s : State) (w : Nat), 16 * w < 2 ^ s.impl.nMem → s.impl.nMem ≤ 128 → s.isBacked w = true →
    ∃ v t u, s.memRead (BitVec.ofNat 128 (16 * w)) .word = some (v, t) ∧ s.memReadW (BitVec.ofNat 128 w) = (v, u) ∧
      HoldsUnit s (16 * w) 16 v

/-- What this processor wrote to a backed location is what it reads there next, by the same scheme or the other, and bits elsewhere read
as before: units by octet address; words by word address, at every word location, those that no octet address reaches included; the unit
by octet address within a word written by word address; the word by word address around a unit written by octet address, whose other
bits are unchanged. A write to an unbacked location does nothing (R90, R91, R262, R84, R66). -/
def Obligations.ReadAfterWrite : Prop :=
  (∀ (s t : State) (oa ob : Word) (size size' : UnitSize) (v : Word),
    s.isBacked (s.octetLocation oa / 16) = true → s.memWrite oa size v = some t →
      (∃ u, t.memRead oa size = some (v &&& lowMask (8 * size.octets), u)) ∧
      (s.octetLocation oa + size.octets ≤ s.octetLocation ob ∨
        s.octetLocation ob + size'.octets ≤ s.octetLocation oa →
        (t.memRead ob size').map Prod.fst = (s.memRead ob size').map Prod.fst)) ∧
  (∀ (s : State) (wa wb v : Word), s.isBacked (s.wordLocation wa) = true →
    ((s.memWriteW wa v).memReadW wb).1 = if s.wordLocation wb = s.wordLocation wa then v else (s.memReadW wb).1) ∧
  (∀ (s : State) (wa oa v : Word) (size : UnitSize), s.isBacked (s.wordLocation wa) = true →
    let a := s.octetLocation oa
    let t := s.memWriteW wa v
    (a / 16 = s.wordLocation wa → a % size.octets = 0 →
      ∃ r u, t.memRead oa size = some (r, u) ∧
        ∀ k, r.getLsbD k = (decide (k < 8 * size.octets) && v.getLsbD (8 * (a % 16) + k))) ∧
    (a / 16 ≠ s.wordLocation wa → (t.memRead oa size).map Prod.fst = (s.memRead oa size).map Prod.fst)) ∧
  (∀ (s t : State) (oa wb v : Word) (size : UnitSize),
    s.isBacked (s.octetLocation oa / 16) = true → s.memWrite oa size v = some t →
    let a := s.octetLocation oa
    let lo := 8 * (a % 16)
    ∀ k < 128, (t.memReadW wb).1.getLsbD k =
      if s.wordLocation wb = a / 16 ∧ lo ≤ k ∧ k < lo + 8 * size.octets then v.getLsbD (k - lo)
      else (s.memReadW wb).1.getLsbD k) ∧
  ∀ (s : State) (a v : Word) (size : UnitSize),
    (s.isBacked (s.wordLocation a) = false → s.memWriteW a v = s) ∧
    (s.isBacked (s.octetLocation a / 16) = false → s.octetLocation a % size.octets = 0 → s.memWrite a size v = some s)

/-- A fetch of a word that this processor has just stored sees the stored word or content that was there before, and only the stored
word where the instruction stream is coherent (R107, R164; D20, log 24). -/
def Obligations.FetchAfterStore : Prop :=
  ∀ (s : State) (wa v : Word), s.isBacked (s.wordLocation wa) = true →
    (s.impl.ifetchCoherent = true → ((s.memWriteW wa v).fetch wa).1 = v) ∧
    (((s.memWriteW wa v).fetch wa).1 = v ∨
      ((s.memWriteW wa v).fetch wa).1 = Memory.readWord s.mem (s.wordLocation wa) ∨
      ((s.memWriteW wa v).fetch wa).1 ∈ s.oldContents (s.wordLocation wa))

/-- The orderings between any two events of a record, number i and number j. Of one initiator, the earlier is ordered before the later
where either is the unrestricted barrier (R98 (a), (b), (c)) and where they access one word location, two reads excepted (R100 (d), (e),
(f)). Where the implementation keeps nothing more in order (R10), two accesses are not ordered otherwise, but for a write that depends
on an earlier read (R101). Events of different initiators, and a later event before an earlier one, are not ordered by these rules (R100
(e)). -/
def Obligations.ProgramOrdersEnforced : Prop :=
  ∀ (s : State) (i j : Nat) (a b : Noted), s.event? i = some a → s.event? j = some b →
    (s.enforced i j = true → i < j ∧ a.initiator = b.initiator) ∧
    (i < j → a.initiator = b.initiator →
      (a.event = .barrier BarrierSel.full ∨ b.event = .barrier BarrierSel.full → s.enforced i j = true) ∧
      (∀ w, (a.event = .read w ∧ b.event = .write w) ∨ (a.event = .write w ∧ b.event = .read w) ∨
        (a.event = .write w ∧ b.event = .write w) → s.enforced i j = true) ∧
      (s.impl.stronger = {} → ∀ v w,
        (a.event = .read v ∧ b.event = .read w → s.enforced i j = false) ∧
        (a.event = .read v ∧ b.event = .write w → (s.enforced i j = true ↔ v = w ∨ s.dependent i j = true)) ∧
        (a.event = .write v ∧ b.event = .read w → (s.enforced i j = true ↔ v = w)) ∧
        (a.event = .write v ∧ b.event = .write w → (s.enforced i j = true ↔ v = w))))

/-- A write that consumes what a read gave is ordered after the read: by data, if it stores a register that overlaps the one loaded; by
address, if it forms its address from it, as base or index; so also where the value went through an instruction that computes, through
another load's address, or through a save set; by control, if a control flow instruction consumed it in its condition or target before,
or an exception went to a handler whose address it became. Loads and stores of both addressing schemes, and STORE ATOMIC (R101, R263,
R270, R97; that a control dependence reaches every later write, and the record: log 43). -/
def Obligations.DependentWritesOrdered : Prop :=
  ∀ (l : Instr) (r : Reg) (a : Address) (s : State), LoadsFrom l r a s →
    let n := s.trace.length
    ∃ t, exec l s = .next t ∧ WritesDepend n r t ∧
      (∀ c q, ComputesFrom c r q t → ∃ u, exec c t = .next u ∧ WritesDepend n q u) ∧
      (∀ c : ControlFlow, c.priv ≤ s.opl → ConditionReads r c.cond ∨ AddressReads r c.target →
        ∃ u, exec (.controlFlow c) t = .next u ∧ WritesControlled n u) ∧
      ∀ p, max 1 p ≤ s.opl →
        (∀ f dst, ∃ u v, exec (.privilegedState ⟨.writeEsave p f (.reg r)⟩) t = .next u ∧
          exec (.privilegedState ⟨.readEsave p f dst⟩) u = .next v ∧ WritesDepend n dst.toReg v) ∧
        (∀ f dst, ∃ u v, exec (.privilegedState ⟨.writeIsave p f (.reg r)⟩) t = .next u ∧
          exec (.privilegedState ⟨.readIsave p f dst⟩) u = .next v ∧ WritesDepend n dst.toReg v) ∧
        ∃ u, exec (.privilegedState ⟨.setEha p (.reg r)⟩) t = .next u ∧ ∀ e, WritesControlled n (u.trapEntry e p)

/-! ### What comes from outside -/

/-- Events between steps. An interrupt of a level from 1 to PL_MAX joins those pending unless reception is disabled and the policy drops
it, or the capacity is reached (R332; D18, log 22). A range that becomes unbacked is, word 0 excepted; a location that becomes backed is,
and no other content changes (R82, R83, R87). The platform takes over one of the interrupts sent (R273, log 19). An access of another
initiator that the system has is by its own number of address bits (R79) and is an event in that initiator's order: a read or a barrier
only that; a write, or a STORE ATOMIC whose conditions hold, changes the unit it names and says what it depends on; an unaligned access, a
failed STORE ATOMIC and a write to an unbacked location do nothing (R84, R101, R106, R109). That a recorded write is at once what this
processor reads is the model's choice, sequential consistency, which D21 allows (log 23). No event touches registers, sequencing or
privileged state but the pending interrupts. -/
def Obligations.EventsFromOutside : Prop :=
  (∀ (s : State) (p : Nat),
    let t := applyEvent (.interruptArrives p) s
    (1 ≤ p ∧ p ≤ s.impl.plMax ∧ (s.xie = true ∨ s.impl.xpendPolicy = .held) ∧
      (∀ n, s.impl.xpendCapacity = some n → s.xpend.length < n) → t = s.setXpend (p :: s.xpend)) ∧
    (p = 0 ∨ s.impl.plMax < p ∨ (s.xie = false ∧ s.impl.xpendPolicy = .dropped) ∨
      (∃ n, s.impl.xpendCapacity = some n ∧ n ≤ s.xpend.length) → t = s)) ∧
  (∀ (s : State) (first last w : Nat),
    let t := applyEvent (.unbacked first last) s
    t.isBacked w = (if w ≠ 0 ∧ first ≤ w ∧ w ≤ last then false else s.isBacked w) ∧ ∀ a, t.octetAt a = s.octetAt a) ∧
  (∀ (s : State) (w : Nat), w < 2 ^ s.impl.nMem →
    let t := applyEvent (.backed w) s
    (∀ v, t.isBacked v = (if v = w then true else s.isBacked v)) ∧
    ∀ a, s.isBacked w = true ∨ a < 16 * w ∨ 16 * w + 16 ≤ a → t.octetAt a = s.octetAt a) ∧
  (∀ (s : State) (n : Nat),
    let t := applyEvent (.sentTaken n) s
    t.outbox = s.outbox.eraseIdx n ∧ t.trace = s.trace ∧ SameMemory s t) ∧
  (∀ (s : State) (who : Initiator) (f : ForeignAccess), foreign s.impl who = false →
    applyEvent (.accessed who f) s = s) ∧
  (∀ (s : State) (who : Initiator) (wa v : Word) (c : Consumed) (sel : BarrierSel), foreign s.impl who = true →
    let w := wa.toNat % 2 ^ addressBits s.impl who
    let t := applyEvent (.accessed who (.writeWord wa v c)) s
    (s.isBacked w = true →
      HoldsUnit t (16 * w) 16 v ∧ OnlyOctets true (16 * w) 16 s t ∧ t.trace = ⟨who, .write w⟩ :: s.trace ∧
      t.consumedBy s.trace.length = c) ∧
    (s.isBacked w = false → t = s) ∧
    applyEvent (.accessed who (.storeAtomicWord wa v true c)) s = t ∧
    applyEvent (.accessed who (.storeAtomicWord wa v false c)) s = s ∧
    applyEvent (.accessed who (.readWord wa)) s = s.noteBy who (.read w) ∧
    applyEvent (.accessed who (.barrier sel)) s = s.noteBy who (.barrier sel)) ∧
  (∀ (s : State) (who : Initiator) (oa v : Word) (size : UnitSize) (c : Consumed), foreign s.impl who = true →
    let a := oa.toNat % 2 ^ addressBits s.impl who
    let t := applyEvent (.accessed who (.writeOctets oa size v c)) s
    (a % size.octets = 0 → s.isBacked (a / 16) = true →
      HoldsUnit t a size.octets v ∧ OnlyOctets true a size.octets s t ∧ t.trace = ⟨who, .write (a / 16)⟩ :: s.trace ∧
      t.consumedBy s.trace.length = c) ∧
    (a % size.octets ≠ 0 ∨ s.isBacked (a / 16) = false → t = s) ∧
    applyEvent (.accessed who (.storeAtomic oa size v true c)) s = t ∧
    applyEvent (.accessed who (.storeAtomic oa size v false c)) s = s ∧
    applyEvent (.accessed who (.readOctets oa size)) s =
      if a % size.octets = 0 then s.noteBy who (.read (a / 16)) else s) ∧
  (∀ (c : Impl) (k : Nat), addressBits c (.processor k) = c.nMem ∧
    ((∀ n, (k, n) ∉ c.agentBits) → addressBits c (.agent k) = c.nMem) ∧
    ((c.agentBits.map Prod.fst).Nodup → ∀ n, (k, n) ∈ c.agentBits → addressBits c (.agent k) = n)) ∧
  ∀ (e : EnvEvent) (s : State),
    let t := applyEvent e s
    SameRegisters s t ∧ t.ipmar = s.ipmar ∧ t.iidx = s.iidx ∧ t.entry = s.entry ∧ t.opl = s.opl ∧ t.xie = s.xie ∧
    SameLevelState s t ∧ t.impl = s.impl

/-! ### Control and interrupts -/

/-- A control flow instruction completes: taken, it goes to the first whole instruction of the target package; not taken, it
advances; nothing else changes (R270, R176, R174). Which conditions there are is the model's choice: always; an operand that is zero, or
is not, in all 128 bits; or a free one (conditions and targets: log 17; a 64-bit register as an operand: log 38). -/
def Obligations.ControlFlowCompletes : Prop :=
  (∀ (o : ControlFlow) (s : State), o.priv ≤ s.opl →
    ∃ t, exec (.controlFlow o) s = .next t ∧
      (if s.holds o.cond = true then TransferredTo (s.address o.target) s t else Advanced s t) ∧
      SameRegisters s t ∧ ComputesOnly s t) ∧
  ∀ (s : State) (x : Operand), s.holds .always = true ∧ (s.holds (.zero x) = true ↔ s.value x = 0#128) ∧
    (s.holds (.nonzero x) = true ↔ s.value x ≠ 0#128)

/-- An internal interrupt is taken whatever XIE is: the instruction completes, and the handler of the instruction's level is entered
with the next instruction as the resume point, in the same step (R272, R330, R331; D17, log 18; OPL literally: D15, log 28). That no
argument is passed, so that the handler finds every register as it was, is the model's choice (log 40). -/
def Obligations.InternalInterruptCompletes : Prop :=
  ∀ (o : InternalInterrupt) (s : State), o.priv ≤ s.opl →
    ∃ t, exec (.internalInterrupt o) s = .next t ∧ Advanced s s.advance ∧
      TookInterrupt o.level s.advance.ipmar s.advance.iidx s t ∧ t.xpend = s.xpend

/-- At PL_MAX an interrupt-sending instruction completes: one interrupt of the sender's PL_MAX leaves for the destination, and the
sender's own state does not change apart from advancing (R273; the outbox: log 19). That the sender's own address is treated like any
other is the model's choice (log 41). -/
def Obligations.SendInterruptCompletes : Prop :=
  ∀ (o : SendInterrupt) (s : State), s.impl.plMax ≤ s.opl →
    ∃ t, exec (.sendInterrupt o) s = .next t ∧
      t.outbox = ⟨o.kind, s.value o.address, s.impl.plMax⟩ :: s.outbox ∧
      SameRegisters s t ∧ SameMemory s t ∧ SamePrivileged s t ∧ t.impl = s.impl ∧ t.trace = s.trace ∧ Advanced s t

/-! ### Privileged state -/

/-- Registering a handler completes at a level that may: EHA[p] or IHA[p] takes the address, every other level and everything else
stays (R275, R333, R40, R41). That it keeps all 128 bits also where fewer address bits are implemented is the model's choice (log 46). -/
def Obligations.HandlerRegistrationCompletes : Prop :=
  ∀ (p : Nat) (src : Operand) (s : State), max 1 p ≤ s.opl →
    (∃ t, exec (.privilegedState ⟨.setEha p src⟩) s = .next t ∧
      (∀ q, t.ehaAt q = if q = p then s.value src else s.ehaAt q) ∧ (∀ q, t.ihaAt q = s.ihaAt q) ∧
      (∀ q, t.esaveAt q = s.esaveAt q) ∧ (∀ q, t.isaveAt q = s.isaveAt q) ∧
      t.opl = s.opl ∧ t.xie = s.xie ∧ t.xpend = s.xpend ∧ t.trace = s.trace ∧
      SameRegisters s t ∧ SameMemory s t ∧ SameOutside s t ∧ Advanced s t) ∧
    ∃ t, exec (.privilegedState ⟨.setIha p src⟩) s = .next t ∧
      (∀ q, t.ihaAt q = if q = p then s.value src else s.ihaAt q) ∧ (∀ q, t.ehaAt q = s.ehaAt q) ∧
      (∀ q, t.esaveAt q = s.esaveAt q) ∧ (∀ q, t.isaveAt q = s.isaveAt q) ∧
      t.opl = s.opl ∧ t.xie = s.xie ∧ t.xpend = s.xpend ∧ t.trace = s.trace ∧
      SameRegisters s t ∧ SameMemory s t ∧ SameOutside s t ∧ Advanced s t

/-- Reading a field of ESAVE[p] or ISAVE[p] completes: the register holds it zero-extended, nothing else is written (R275, R333, R42,
R43; zero extension: log 21). -/
def Obligations.SaveSetReadsComplete : Prop :=
  ∀ (p : Nat) (dst : WideReg) (s : State), max 1 p ≤ s.opl →
    (∀ f : SaveField, ∃ t, exec (.privilegedState ⟨.readEsave p f dst⟩) s = .next t ∧
      t.readReg dst.toReg =
        (match f with
          | .resume .opl => BitVec.ofNat 128 (s.esaveAt p).opl
          | .resume .ipmar => (s.esaveAt p).ipmar
          | .resume .iidx => BitVec.ofNat 128 (s.esaveAt p).iidx.val
          | .ceid => BitVec.ofNat 128 (s.esaveAt p).ceid) ∧
      OnlyRegister dst.toReg s t ∧ ComputesOnly s t ∧ Advanced s t) ∧
    ∀ f : ResumeField, ∃ t, exec (.privilegedState ⟨.readIsave p f dst⟩) s = .next t ∧
      t.readReg dst.toReg =
        (match f with
          | .opl => BitVec.ofNat 128 (s.isaveAt p).opl
          | .ipmar => (s.isaveAt p).ipmar
          | .iidx => BitVec.ofNat 128 (s.isaveAt p).iidx.val) ∧
      OnlyRegister dst.toReg s t ∧ ComputesOnly s t ∧ Advanced s t

/-- Writing a field of ESAVE[p] or ISAVE[p] completes: only that field changes; a level above PL_MAX leaves some level within it (R275,
R333, R325, R42, R43; what such a level and the high bits of an index leave, and that a level above the writer's own OPL is kept, is the
model's choice: log 21). That a saved IPMAR keeps all 128 bits also where fewer address bits are implemented is the model's choice too
(log 46). -/
def Obligations.SaveSetWritesComplete : Prop :=
  ∀ (p : Nat) (src : Operand) (s : State), max 1 p ≤ s.opl →
    (∀ f : SaveField, ∃ t, exec (.privilegedState ⟨.writeEsave p f src⟩) s = .next t ∧
      (t.esaveAt p).ipmar = (if f = .resume .ipmar then s.value src else (s.esaveAt p).ipmar) ∧
      (t.esaveAt p).iidx.val = (if f = .resume .iidx then (s.value src).toNat % 4 else (s.esaveAt p).iidx.val) ∧
      (t.esaveAt p).ceid = (if f = .ceid then (s.value src).toNat else (s.esaveAt p).ceid) ∧
      (if f = .resume .opl then
        ((s.value src).toNat ≤ s.impl.plMax → (t.esaveAt p).opl = (s.value src).toNat) ∧
          (t.esaveAt p).opl ≤ s.impl.plMax
       else (t.esaveAt p).opl = (s.esaveAt p).opl) ∧
      (∀ q, q ≠ p → t.esaveAt q = s.esaveAt q) ∧ (∀ q, t.isaveAt q = s.isaveAt q) ∧
      (∀ q, t.ehaAt q = s.ehaAt q) ∧ (∀ q, t.ihaAt q = s.ihaAt q) ∧
      t.opl = s.opl ∧ t.xie = s.xie ∧ t.xpend = s.xpend ∧ t.trace = s.trace ∧
      SameRegisters s t ∧ SameMemory s t ∧ SameOutside s t ∧ Advanced s t) ∧
    ∀ f : ResumeField, ∃ t, exec (.privilegedState ⟨.writeIsave p f src⟩) s = .next t ∧
      (t.isaveAt p).ipmar = (if f = .ipmar then s.value src else (s.isaveAt p).ipmar) ∧
      (t.isaveAt p).iidx.val = (if f = .iidx then (s.value src).toNat % 4 else (s.isaveAt p).iidx.val) ∧
      (if f = .opl then
        ((s.value src).toNat ≤ s.impl.plMax → (t.isaveAt p).opl = (s.value src).toNat) ∧
          (t.isaveAt p).opl ≤ s.impl.plMax
       else (t.isaveAt p).opl = (s.isaveAt p).opl) ∧
      (∀ q, q ≠ p → t.isaveAt q = s.isaveAt q) ∧ (∀ q, t.esaveAt q = s.esaveAt q) ∧
      (∀ q, t.ehaAt q = s.ehaAt q) ∧ (∀ q, t.ihaAt q = s.ihaAt q) ∧
      t.opl = s.opl ∧ t.xie = s.xie ∧ t.xpend = s.xpend ∧ t.trace = s.trace ∧
      SameRegisters s t ∧ SameMemory s t ∧ SameOutside s t ∧ Advanced s t

/-- A return completes at a level that may: OPL, IPMAR and IIDX come from the save set, ENTRY is Transfer, XIE and everything else stay
(R325, R334; XIE: D31, log 28). -/
def Obligations.ReturnsComplete : Prop :=
  ∀ (p : Nat) (s : State), max 1 p ≤ s.opl →
    (∃ t, exec (.privilegedState ⟨.exceptionReturn p⟩) s = .next t ∧
      t.opl = (s.esaveAt p).opl ∧ t.ipmar = trunc s.impl (s.esaveAt p).ipmar ∧ t.iidx = (s.esaveAt p).iidx ∧
      t.entry = .transfer ∧ t.xie = s.xie ∧ t.xpend = s.xpend ∧ t.trace = s.trace ∧
      SameLevelState s t ∧ SameRegisters s t ∧ SameMemory s t ∧ SameOutside s t) ∧
    ∃ t, exec (.privilegedState ⟨.interruptReturn p⟩) s = .next t ∧
      t.opl = (s.isaveAt p).opl ∧ t.ipmar = trunc s.impl (s.isaveAt p).ipmar ∧ t.iidx = (s.isaveAt p).iidx ∧
      t.entry = .transfer ∧ t.xie = s.xie ∧ t.xpend = s.xpend ∧ t.trace = s.trace ∧
      SameLevelState s t ∧ SameRegisters s t ∧ SameMemory s t ∧ SameOutside s t

/-- Setting XIE and lowering OPL complete: each writes that one thing and advances, or goes to the target it names (R275, R333; the
forms: log 21). -/
def Obligations.XieAndOplWritesComplete : Prop :=
  ∀ s : State, 1 ≤ s.opl →
    (∀ on : Bool, ∃ t, exec (.privilegedState ⟨.setXie on⟩) s = .next t ∧ t.xie = on ∧ t.opl = s.opl ∧
      t.xpend = s.xpend ∧ t.trace = s.trace ∧ SameLevelState s t ∧ SameRegisters s t ∧ SameMemory s t ∧
      SameOutside s t ∧ Advanced s t) ∧
    ∀ (q : Nat) (target : Option Address), q ≤ s.opl →
      ∃ t, exec (.privilegedState ⟨.lowerOpl q target⟩) s = .next t ∧ t.opl = q ∧ t.xie = s.xie ∧
        t.xpend = s.xpend ∧ t.trace = s.trace ∧ SameLevelState s t ∧ SameRegisters s t ∧ SameMemory s t ∧
        SameOutside s t ∧
        (match target with
          | none => Advanced s t
          | some a => TransferredTo (s.address a) s t)

/-- Enforcing coherence completes: from then on a fetch of a backed location sees what memory holds; memory, registers and privileged
state stay (R107, R275; D20, log 24). R108 leaves the mechanism's guarantee to the extension: that one enforcement on the executing
processor is enough, for every location and whoever stored there, is the model's choice (log 37). -/
def Obligations.CoherenceEnforcementCompletes : Prop :=
  ∀ s : State, 1 ≤ s.opl →
    ∃ t, exec (.privilegedState ⟨.enforceCoherence⟩) s = .next t ∧
      (∀ wa, t.isBacked (t.wordLocation wa) = true → t.fetch wa = (Memory.readWord t.mem (t.wordLocation wa), t)) ∧
      (∀ a, t.octetAt a = s.octetAt a) ∧ t.backing = s.backing ∧ SameRegisters s t ∧ SamePrivileged s t ∧
      SameOutside s t ∧ t.trace = s.trace ∧ Advanced s t

/-! ### Exceptions -/

/-- What `TrapEntry(e, p)` writes: the four saved items, XIE, OPL and the control transfer to EHA[p]; nothing else changes (R320). That OPL
becomes the greater of OPL and p is D15 (R324, log 28); that IPMAR holds the handler's address modulo 2**N_MEM is D2 (log 29). -/
def Obligations.TrapEntryWrites : Prop :=
  ∀ (s : State) (e : ExcId) (p : Nat), TookException e p s (s.trapEntry e p)

/-- The handler's return brings the processor back: after an exception of level p was taken, the return from it restores OPL, and
goes to the exception-causing instruction; likewise for an interrupt and its resume point (R320, R325, R331, R334; XIE stays off:
D31, log 28). -/
def Obligations.ReturnUndoesEntry : Prop :=
  ∀ (s t : State) (p : Nat), 1 ≤ p →
    (∀ e, TookException e p s t → ∃ u, exec (.privilegedState ⟨.exceptionReturn p⟩) t = .next u ∧
      u.opl = s.opl ∧ u.ipmar = trunc s.impl s.ipmar ∧ u.iidx = s.iidx ∧ u.entry = .transfer ∧ u.xie = false ∧
      SameRegisters s u ∧ SameMemory s u) ∧
    ∀ a k, TookInterrupt p a k s t → ∃ u, exec (.privilegedState ⟨.interruptReturn p⟩) t = .next u ∧
      u.opl = s.opl ∧ u.ipmar = trunc s.impl a ∧ u.iidx = k ∧ u.entry = .transfer ∧ u.xie = false ∧
      SameRegisters s u ∧ SameMemory s u

/-! ### Registers -/

/-- SRNR[i] is the half of RNR[i div 2] that i mod 2 says; a write changes that half only; an RNR is its two SRNRs (R32). -/
def Obligations.SrnrMapping : Prop :=
  ∀ (s : State) (i j : Fin 128) (r : Fin 64) (v : SemiWord) (w : Word),
    s.srnr i = s.rnr[fullOf i].extractLsb' (64 * (i.val % 2)) 64 ∧
    (s.setSrnr i v).srnr i = v ∧ (j ≠ i → (s.setSrnr i v).srnr j = s.srnr j) ∧
    s.rnr[r] = s.srnr ⟨2 * r.val + 1, by omega⟩ ++ s.srnr ⟨2 * r.val, by omega⟩ ∧
    (s.setRnr r w).srnr ⟨2 * r.val, by omega⟩ = w.extractLsb' 0 64 ∧
    (s.setRnr r w).srnr ⟨2 * r.val + 1, by omega⟩ = w.extractLsb' 64 64

/-- The same of SGPRs and GPRs (R25; that the other half stays is the spec's own inference there). -/
def Obligations.SgprMapping : Prop :=
  ∀ (s : State) (i j : Fin 128) (g : Fin 64) (v : SemiWord) (w : Word),
    s.sgpr i = s.gpr[fullOf i].extractLsb' (64 * (i.val % 2)) 64 ∧
    (s.setSgpr i v).sgpr i = v ∧ (j ≠ i → (s.setSgpr i v).sgpr j = s.sgpr j) ∧
    s.gpr[g] = s.sgpr ⟨2 * g.val + 1, by omega⟩ ++ s.sgpr ⟨2 * g.val, by omega⟩ ∧
    (s.setGpr g w).sgpr ⟨2 * g.val, by omega⟩ = w.extractLsb' 0 64 ∧
    (s.setGpr g w).sgpr ⟨2 * g.val + 1, by omega⟩ = w.extractLsb' 64 64

/-! ### The whole machine -/

/-- What R35 states of a started processor, for every implementation and memory image: IPMAR 0, IIDX 0, ENTRY Transfer, OPL = PL_MAX;
State.reset is one of them, and the invariant holds there (the values it rests on besides are the model's: logs 2 to 5); and word 0 is
backed in every state (R83). -/
def Obligations.StartedState : Prop :=
  (∀ (c : Impl) (m : List Host.Cell), State.Started (State.boot c m)) ∧ State.Started State.reset ∧ Inv State.reset ∧
  ∀ s : State, s.isBacked 0 = true

/-- Every step keeps the invariant, and so does every event from outside between steps: a legal implementation, memory in canonical
form, OPL, saved and pending levels within PL_MAX, IPMAR within N_MEM bits (R10, R38, R42, R44, R78, R82, R109, R332). -/
def Obligations.StepKeepsInv : Prop :=
  (∀ s t : State, Inv s → step s = .next t → Inv t) ∧ ∀ (e : EnvEvent) (s : State), Inv s → Inv (applyEvent e s)

/-- OPL rises from 0 only through a registered handler: a step from OPL 0 to another level takes an exception or an interrupt of that
level, with reception off, at the first whole instruction of the package at EHA[p] or IHA[p] as they stood, the former OPL saved
(R303, R320, R331). -/
def Obligations.PrivilegeRisesOnlyIntoHandlers : Prop :=
  ∀ s t : State, s.opl = 0 → step s = .next t → t.opl ≠ 0 →
    t.xie = false ∧ t.iidx = 0 ∧ t.entry = .transfer ∧
    ((t.ipmar = trunc s.impl (s.ehaAt t.opl) ∧ (t.esaveAt t.opl).opl = 0) ∨
      (t.ipmar = trunc s.impl (s.ihaAt t.opl) ∧ (t.isaveAt t.opl).opl = 0))

/-- At OPL 0 no step changes a handler address, and reception of external interrupts is never switched on (R301, R275, R39). -/
def Obligations.UnprivilegedStepsKeepHandlers : Prop :=
  ∀ s t : State, s.opl = 0 → step s = .next t →
    (∀ p, t.ehaAt p = s.ehaAt p ∧ t.ihaAt p = s.ihaAt p) ∧ (s.xie = false → t.xie = false)
end

