-- ==== Sys2Proof/Laws/State.lean ====
section
/-! SUPPORT. One lemma per field of State and update: what the update leaves there. -/

namespace Sys2Proof.Machine.State

open Sys2Proof

variable (s : State)

@[simp] theorem setGpr_ipmar (g : Fin 64) (v : Word) : (s.setGpr g v).ipmar = s.ipmar := rfl
@[simp] theorem setGpr_iidx (g : Fin 64) (v : Word) : (s.setGpr g v).iidx = s.iidx := rfl
@[simp] theorem setGpr_entry (g : Fin 64) (v : Word) : (s.setGpr g v).entry = s.entry := rfl
@[simp] theorem setGpr_gpr (g : Fin 64) (v : Word) : (s.setGpr g v).gpr = s.gpr.set g v := rfl
@[simp] theorem setGpr_rnr (g : Fin 64) (v : Word) : (s.setGpr g v).rnr = s.rnr := rfl
@[simp] theorem setGpr_cr (g : Fin 64) (v : Word) : (s.setGpr g v).cr = s.cr := rfl
@[simp] theorem setGpr_opl (g : Fin 64) (v : Word) : (s.setGpr g v).opl = s.opl := rfl
@[simp] theorem setGpr_xie (g : Fin 64) (v : Word) : (s.setGpr g v).xie = s.xie := rfl
@[simp] theorem setGpr_eha (g : Fin 64) (v : Word) : (s.setGpr g v).eha = s.eha := rfl
@[simp] theorem setGpr_iha (g : Fin 64) (v : Word) : (s.setGpr g v).iha = s.iha := rfl
@[simp] theorem setGpr_esave (g : Fin 64) (v : Word) : (s.setGpr g v).esave = s.esave := rfl
@[simp] theorem setGpr_isave (g : Fin 64) (v : Word) : (s.setGpr g v).isave = s.isave := rfl
@[simp] theorem setGpr_xpend (g : Fin 64) (v : Word) : (s.setGpr g v).xpend = s.xpend := rfl
@[simp] theorem setGpr_mem (g : Fin 64) (v : Word) : (s.setGpr g v).mem = s.mem := rfl
@[simp] theorem setGpr_backing (g : Fin 64) (v : Word) : (s.setGpr g v).backing = s.backing := rfl
@[simp] theorem setGpr_stale (g : Fin 64) (v : Word) : (s.setGpr g v).stale = s.stale := rfl
@[simp] theorem setGpr_outbox (g : Fin 64) (v : Word) : (s.setGpr g v).outbox = s.outbox := rfl
@[simp] theorem setGpr_trace (g : Fin 64) (v : Word) : (s.setGpr g v).trace = s.trace := rfl
@[simp] theorem setGpr_depend (g : Fin 64) (v : Word) : (s.setGpr g v).depend = s.depend := rfl
@[simp] theorem setGpr_free (g : Fin 64) (v : Word) : (s.setGpr g v).free = s.free := rfl
@[simp] theorem setGpr_shape (g : Fin 64) (v : Word) : (s.setGpr g v).shape = s.shape := rfl
@[simp] theorem setGpr_impl (g : Fin 64) (v : Word) : (s.setGpr g v).impl = s.impl := rfl

@[simp] theorem setRnr_ipmar (r : Fin 64) (v : Word) : (s.setRnr r v).ipmar = s.ipmar := rfl
@[simp] theorem setRnr_iidx (r : Fin 64) (v : Word) : (s.setRnr r v).iidx = s.iidx := rfl
@[simp] theorem setRnr_entry (r : Fin 64) (v : Word) : (s.setRnr r v).entry = s.entry := rfl
@[simp] theorem setRnr_gpr (r : Fin 64) (v : Word) : (s.setRnr r v).gpr = s.gpr := rfl
@[simp] theorem setRnr_rnr (r : Fin 64) (v : Word) : (s.setRnr r v).rnr = s.rnr.set r v := rfl
@[simp] theorem setRnr_cr (r : Fin 64) (v : Word) : (s.setRnr r v).cr = s.cr := rfl
@[simp] theorem setRnr_opl (r : Fin 64) (v : Word) : (s.setRnr r v).opl = s.opl := rfl
@[simp] theorem setRnr_xie (r : Fin 64) (v : Word) : (s.setRnr r v).xie = s.xie := rfl
@[simp] theorem setRnr_eha (r : Fin 64) (v : Word) : (s.setRnr r v).eha = s.eha := rfl
@[simp] theorem setRnr_iha (r : Fin 64) (v : Word) : (s.setRnr r v).iha = s.iha := rfl
@[simp] theorem setRnr_esave (r : Fin 64) (v : Word) : (s.setRnr r v).esave = s.esave := rfl
@[simp] theorem setRnr_isave (r : Fin 64) (v : Word) : (s.setRnr r v).isave = s.isave := rfl
@[simp] theorem setRnr_xpend (r : Fin 64) (v : Word) : (s.setRnr r v).xpend = s.xpend := rfl
@[simp] theorem setRnr_mem (r : Fin 64) (v : Word) : (s.setRnr r v).mem = s.mem := rfl
@[simp] theorem setRnr_backing (r : Fin 64) (v : Word) : (s.setRnr r v).backing = s.backing := rfl
@[simp] theorem setRnr_stale (r : Fin 64) (v : Word) : (s.setRnr r v).stale = s.stale := rfl
@[simp] theorem setRnr_outbox (r : Fin 64) (v : Word) : (s.setRnr r v).outbox = s.outbox := rfl
@[simp] theorem setRnr_trace (r : Fin 64) (v : Word) : (s.setRnr r v).trace = s.trace := rfl
@[simp] theorem setRnr_depend (r : Fin 64) (v : Word) : (s.setRnr r v).depend = s.depend := rfl
@[simp] theorem setRnr_free (r : Fin 64) (v : Word) : (s.setRnr r v).free = s.free := rfl
@[simp] theorem setRnr_shape (r : Fin 64) (v : Word) : (s.setRnr r v).shape = s.shape := rfl
@[simp] theorem setRnr_impl (r : Fin 64) (v : Word) : (s.setRnr r v).impl = s.impl := rfl

@[simp] theorem setCr_ipmar (i : Fin 128) (b : Bool) : (s.setCr i b).ipmar = s.ipmar := rfl
@[simp] theorem setCr_iidx (i : Fin 128) (b : Bool) : (s.setCr i b).iidx = s.iidx := rfl
@[simp] theorem setCr_entry (i : Fin 128) (b : Bool) : (s.setCr i b).entry = s.entry := rfl
@[simp] theorem setCr_gpr (i : Fin 128) (b : Bool) : (s.setCr i b).gpr = s.gpr := rfl
@[simp] theorem setCr_rnr (i : Fin 128) (b : Bool) : (s.setCr i b).rnr = s.rnr := rfl
@[simp] theorem setCr_cr (i : Fin 128) (b : Bool) : (s.setCr i b).cr = s.cr.set i b := rfl
@[simp] theorem setCr_opl (i : Fin 128) (b : Bool) : (s.setCr i b).opl = s.opl := rfl
@[simp] theorem setCr_xie (i : Fin 128) (b : Bool) : (s.setCr i b).xie = s.xie := rfl
@[simp] theorem setCr_eha (i : Fin 128) (b : Bool) : (s.setCr i b).eha = s.eha := rfl
@[simp] theorem setCr_iha (i : Fin 128) (b : Bool) : (s.setCr i b).iha = s.iha := rfl
@[simp] theorem setCr_esave (i : Fin 128) (b : Bool) : (s.setCr i b).esave = s.esave := rfl
@[simp] theorem setCr_isave (i : Fin 128) (b : Bool) : (s.setCr i b).isave = s.isave := rfl
@[simp] theorem setCr_xpend (i : Fin 128) (b : Bool) : (s.setCr i b).xpend = s.xpend := rfl
@[simp] theorem setCr_mem (i : Fin 128) (b : Bool) : (s.setCr i b).mem = s.mem := rfl
@[simp] theorem setCr_backing (i : Fin 128) (b : Bool) : (s.setCr i b).backing = s.backing := rfl
@[simp] theorem setCr_stale (i : Fin 128) (b : Bool) : (s.setCr i b).stale = s.stale := rfl
@[simp] theorem setCr_outbox (i : Fin 128) (b : Bool) : (s.setCr i b).outbox = s.outbox := rfl
@[simp] theorem setCr_trace (i : Fin 128) (b : Bool) : (s.setCr i b).trace = s.trace := rfl
@[simp] theorem setCr_depend (i : Fin 128) (b : Bool) : (s.setCr i b).depend = s.depend := rfl
@[simp] theorem setCr_free (i : Fin 128) (b : Bool) : (s.setCr i b).free = s.free := rfl
@[simp] theorem setCr_shape (i : Fin 128) (b : Bool) : (s.setCr i b).shape = s.shape := rfl
@[simp] theorem setCr_impl (i : Fin 128) (b : Bool) : (s.setCr i b).impl = s.impl := rfl

@[simp] theorem setSequence_ipmar (a : Word) (k : Fin 4) (e : Entry) : (s.setSequence a k e).ipmar = a := rfl
@[simp] theorem setSequence_iidx (a : Word) (k : Fin 4) (e : Entry) : (s.setSequence a k e).iidx = k := rfl
@[simp] theorem setSequence_entry (a : Word) (k : Fin 4) (e : Entry) : (s.setSequence a k e).entry = e := rfl
@[simp] theorem setSequence_gpr (a : Word) (k : Fin 4) (e : Entry) : (s.setSequence a k e).gpr = s.gpr := rfl
@[simp] theorem setSequence_rnr (a : Word) (k : Fin 4) (e : Entry) : (s.setSequence a k e).rnr = s.rnr := rfl
@[simp] theorem setSequence_cr (a : Word) (k : Fin 4) (e : Entry) : (s.setSequence a k e).cr = s.cr := rfl
@[simp] theorem setSequence_opl (a : Word) (k : Fin 4) (e : Entry) : (s.setSequence a k e).opl = s.opl := rfl
@[simp] theorem setSequence_xie (a : Word) (k : Fin 4) (e : Entry) : (s.setSequence a k e).xie = s.xie := rfl
@[simp] theorem setSequence_eha (a : Word) (k : Fin 4) (e : Entry) : (s.setSequence a k e).eha = s.eha := rfl
@[simp] theorem setSequence_iha (a : Word) (k : Fin 4) (e : Entry) : (s.setSequence a k e).iha = s.iha := rfl
@[simp] theorem setSequence_esave (a : Word) (k : Fin 4) (e : Entry) : (s.setSequence a k e).esave = s.esave := rfl
@[simp] theorem setSequence_isave (a : Word) (k : Fin 4) (e : Entry) : (s.setSequence a k e).isave = s.isave := rfl
@[simp] theorem setSequence_xpend (a : Word) (k : Fin 4) (e : Entry) : (s.setSequence a k e).xpend = s.xpend := rfl
@[simp] theorem setSequence_mem (a : Word) (k : Fin 4) (e : Entry) : (s.setSequence a k e).mem = s.mem := rfl
@[simp] theorem setSequence_backing (a : Word) (k : Fin 4) (e : Entry) : (s.setSequence a k e).backing = s.backing := rfl
@[simp] theorem setSequence_stale (a : Word) (k : Fin 4) (e : Entry) : (s.setSequence a k e).stale = s.stale := rfl
@[simp] theorem setSequence_outbox (a : Word) (k : Fin 4) (e : Entry) : (s.setSequence a k e).outbox = s.outbox := rfl
@[simp] theorem setSequence_trace (a : Word) (k : Fin 4) (e : Entry) : (s.setSequence a k e).trace = s.trace := rfl
@[simp] theorem setSequence_depend (a : Word) (k : Fin 4) (e : Entry) : (s.setSequence a k e).depend = s.depend := rfl
@[simp] theorem setSequence_free (a : Word) (k : Fin 4) (e : Entry) : (s.setSequence a k e).free = s.free := rfl
@[simp] theorem setSequence_shape (a : Word) (k : Fin 4) (e : Entry) : (s.setSequence a k e).shape = s.shape := rfl
@[simp] theorem setSequence_impl (a : Word) (k : Fin 4) (e : Entry) : (s.setSequence a k e).impl = s.impl := rfl

@[simp] theorem setOpl_ipmar (p : Nat) : (s.setOpl p).ipmar = s.ipmar := rfl
@[simp] theorem setOpl_iidx (p : Nat) : (s.setOpl p).iidx = s.iidx := rfl
@[simp] theorem setOpl_entry (p : Nat) : (s.setOpl p).entry = s.entry := rfl
@[simp] theorem setOpl_gpr (p : Nat) : (s.setOpl p).gpr = s.gpr := rfl
@[simp] theorem setOpl_rnr (p : Nat) : (s.setOpl p).rnr = s.rnr := rfl
@[simp] theorem setOpl_cr (p : Nat) : (s.setOpl p).cr = s.cr := rfl
@[simp] theorem setOpl_opl (p : Nat) : (s.setOpl p).opl = p := rfl
@[simp] theorem setOpl_xie (p : Nat) : (s.setOpl p).xie = s.xie := rfl
@[simp] theorem setOpl_eha (p : Nat) : (s.setOpl p).eha = s.eha := rfl
@[simp] theorem setOpl_iha (p : Nat) : (s.setOpl p).iha = s.iha := rfl
@[simp] theorem setOpl_esave (p : Nat) : (s.setOpl p).esave = s.esave := rfl
@[simp] theorem setOpl_isave (p : Nat) : (s.setOpl p).isave = s.isave := rfl
@[simp] theorem setOpl_xpend (p : Nat) : (s.setOpl p).xpend = s.xpend := rfl
@[simp] theorem setOpl_mem (p : Nat) : (s.setOpl p).mem = s.mem := rfl
@[simp] theorem setOpl_backing (p : Nat) : (s.setOpl p).backing = s.backing := rfl
@[simp] theorem setOpl_stale (p : Nat) : (s.setOpl p).stale = s.stale := rfl
@[simp] theorem setOpl_outbox (p : Nat) : (s.setOpl p).outbox = s.outbox := rfl
@[simp] theorem setOpl_trace (p : Nat) : (s.setOpl p).trace = s.trace := rfl
@[simp] theorem setOpl_depend (p : Nat) : (s.setOpl p).depend = s.depend := rfl
@[simp] theorem setOpl_free (p : Nat) : (s.setOpl p).free = s.free := rfl
@[simp] theorem setOpl_shape (p : Nat) : (s.setOpl p).shape = s.shape := rfl
@[simp] theorem setOpl_impl (p : Nat) : (s.setOpl p).impl = s.impl := rfl

@[simp] theorem setXie_ipmar (b : Bool) : (s.setXie b).ipmar = s.ipmar := rfl
@[simp] theorem setXie_iidx (b : Bool) : (s.setXie b).iidx = s.iidx := rfl
@[simp] theorem setXie_entry (b : Bool) : (s.setXie b).entry = s.entry := rfl
@[simp] theorem setXie_gpr (b : Bool) : (s.setXie b).gpr = s.gpr := rfl
@[simp] theorem setXie_rnr (b : Bool) : (s.setXie b).rnr = s.rnr := rfl
@[simp] theorem setXie_cr (b : Bool) : (s.setXie b).cr = s.cr := rfl
@[simp] theorem setXie_opl (b : Bool) : (s.setXie b).opl = s.opl := rfl
@[simp] theorem setXie_xie (b : Bool) : (s.setXie b).xie = b := rfl
@[simp] theorem setXie_eha (b : Bool) : (s.setXie b).eha = s.eha := rfl
@[simp] theorem setXie_iha (b : Bool) : (s.setXie b).iha = s.iha := rfl
@[simp] theorem setXie_esave (b : Bool) : (s.setXie b).esave = s.esave := rfl
@[simp] theorem setXie_isave (b : Bool) : (s.setXie b).isave = s.isave := rfl
@[simp] theorem setXie_xpend (b : Bool) : (s.setXie b).xpend = s.xpend := rfl
@[simp] theorem setXie_mem (b : Bool) : (s.setXie b).mem = s.mem := rfl
@[simp] theorem setXie_backing (b : Bool) : (s.setXie b).backing = s.backing := rfl
@[simp] theorem setXie_stale (b : Bool) : (s.setXie b).stale = s.stale := rfl
@[simp] theorem setXie_outbox (b : Bool) : (s.setXie b).outbox = s.outbox := rfl
@[simp] theorem setXie_trace (b : Bool) : (s.setXie b).trace = s.trace := rfl
@[simp] theorem setXie_depend (b : Bool) : (s.setXie b).depend = s.depend := rfl
@[simp] theorem setXie_free (b : Bool) : (s.setXie b).free = s.free := rfl
@[simp] theorem setXie_shape (b : Bool) : (s.setXie b).shape = s.shape := rfl
@[simp] theorem setXie_impl (b : Bool) : (s.setXie b).impl = s.impl := rfl

@[simp] theorem setEhaMap_ipmar (m : LevelMap Word) : (s.setEhaMap m).ipmar = s.ipmar := rfl
@[simp] theorem setEhaMap_iidx (m : LevelMap Word) : (s.setEhaMap m).iidx = s.iidx := rfl
@[simp] theorem setEhaMap_entry (m : LevelMap Word) : (s.setEhaMap m).entry = s.entry := rfl
@[simp] theorem setEhaMap_gpr (m : LevelMap Word) : (s.setEhaMap m).gpr = s.gpr := rfl
@[simp] theorem setEhaMap_rnr (m : LevelMap Word) : (s.setEhaMap m).rnr = s.rnr := rfl
@[simp] theorem setEhaMap_cr (m : LevelMap Word) : (s.setEhaMap m).cr = s.cr := rfl
@[simp] theorem setEhaMap_opl (m : LevelMap Word) : (s.setEhaMap m).opl = s.opl := rfl
@[simp] theorem setEhaMap_xie (m : LevelMap Word) : (s.setEhaMap m).xie = s.xie := rfl
@[simp] theorem setEhaMap_eha (m : LevelMap Word) : (s.setEhaMap m).eha = m := rfl
@[simp] theorem setEhaMap_iha (m : LevelMap Word) : (s.setEhaMap m).iha = s.iha := rfl
@[simp] theorem setEhaMap_esave (m : LevelMap Word) : (s.setEhaMap m).esave = s.esave := rfl
@[simp] theorem setEhaMap_isave (m : LevelMap Word) : (s.setEhaMap m).isave = s.isave := rfl
@[simp] theorem setEhaMap_xpend (m : LevelMap Word) : (s.setEhaMap m).xpend = s.xpend := rfl
@[simp] theorem setEhaMap_mem (m : LevelMap Word) : (s.setEhaMap m).mem = s.mem := rfl
@[simp] theorem setEhaMap_backing (m : LevelMap Word) : (s.setEhaMap m).backing = s.backing := rfl
@[simp] theorem setEhaMap_stale (m : LevelMap Word) : (s.setEhaMap m).stale = s.stale := rfl
@[simp] theorem setEhaMap_outbox (m : LevelMap Word) : (s.setEhaMap m).outbox = s.outbox := rfl
@[simp] theorem setEhaMap_trace (m : LevelMap Word) : (s.setEhaMap m).trace = s.trace := rfl
@[simp] theorem setEhaMap_depend (m : LevelMap Word) : (s.setEhaMap m).depend = s.depend := rfl
@[simp] theorem setEhaMap_free (m : LevelMap Word) : (s.setEhaMap m).free = s.free := rfl
@[simp] theorem setEhaMap_shape (m : LevelMap Word) : (s.setEhaMap m).shape = s.shape := rfl
@[simp] theorem setEhaMap_impl (m : LevelMap Word) : (s.setEhaMap m).impl = s.impl := rfl

@[simp] theorem setIhaMap_ipmar (m : LevelMap Word) : (s.setIhaMap m).ipmar = s.ipmar := rfl
@[simp] theorem setIhaMap_iidx (m : LevelMap Word) : (s.setIhaMap m).iidx = s.iidx := rfl
@[simp] theorem setIhaMap_entry (m : LevelMap Word) : (s.setIhaMap m).entry = s.entry := rfl
@[simp] theorem setIhaMap_gpr (m : LevelMap Word) : (s.setIhaMap m).gpr = s.gpr := rfl
@[simp] theorem setIhaMap_rnr (m : LevelMap Word) : (s.setIhaMap m).rnr = s.rnr := rfl
@[simp] theorem setIhaMap_cr (m : LevelMap Word) : (s.setIhaMap m).cr = s.cr := rfl
@[simp] theorem setIhaMap_opl (m : LevelMap Word) : (s.setIhaMap m).opl = s.opl := rfl
@[simp] theorem setIhaMap_xie (m : LevelMap Word) : (s.setIhaMap m).xie = s.xie := rfl
@[simp] theorem setIhaMap_eha (m : LevelMap Word) : (s.setIhaMap m).eha = s.eha := rfl
@[simp] theorem setIhaMap_iha (m : LevelMap Word) : (s.setIhaMap m).iha = m := rfl
@[simp] theorem setIhaMap_esave (m : LevelMap Word) : (s.setIhaMap m).esave = s.esave := rfl
@[simp] theorem setIhaMap_isave (m : LevelMap Word) : (s.setIhaMap m).isave = s.isave := rfl
@[simp] theorem setIhaMap_xpend (m : LevelMap Word) : (s.setIhaMap m).xpend = s.xpend := rfl
@[simp] theorem setIhaMap_mem (m : LevelMap Word) : (s.setIhaMap m).mem = s.mem := rfl
@[simp] theorem setIhaMap_backing (m : LevelMap Word) : (s.setIhaMap m).backing = s.backing := rfl
@[simp] theorem setIhaMap_stale (m : LevelMap Word) : (s.setIhaMap m).stale = s.stale := rfl
@[simp] theorem setIhaMap_outbox (m : LevelMap Word) : (s.setIhaMap m).outbox = s.outbox := rfl
@[simp] theorem setIhaMap_trace (m : LevelMap Word) : (s.setIhaMap m).trace = s.trace := rfl
@[simp] theorem setIhaMap_depend (m : LevelMap Word) : (s.setIhaMap m).depend = s.depend := rfl
@[simp] theorem setIhaMap_free (m : LevelMap Word) : (s.setIhaMap m).free = s.free := rfl
@[simp] theorem setIhaMap_shape (m : LevelMap Word) : (s.setIhaMap m).shape = s.shape := rfl
@[simp] theorem setIhaMap_impl (m : LevelMap Word) : (s.setIhaMap m).impl = s.impl := rfl

@[simp] theorem setEsaveMap_ipmar (m : LevelMap ExcSave) : (s.setEsaveMap m).ipmar = s.ipmar := rfl
@[simp] theorem setEsaveMap_iidx (m : LevelMap ExcSave) : (s.setEsaveMap m).iidx = s.iidx := rfl
@[simp] theorem setEsaveMap_entry (m : LevelMap ExcSave) : (s.setEsaveMap m).entry = s.entry := rfl
@[simp] theorem setEsaveMap_gpr (m : LevelMap ExcSave) : (s.setEsaveMap m).gpr = s.gpr := rfl
@[simp] theorem setEsaveMap_rnr (m : LevelMap ExcSave) : (s.setEsaveMap m).rnr = s.rnr := rfl
@[simp] theorem setEsaveMap_cr (m : LevelMap ExcSave) : (s.setEsaveMap m).cr = s.cr := rfl
@[simp] theorem setEsaveMap_opl (m : LevelMap ExcSave) : (s.setEsaveMap m).opl = s.opl := rfl
@[simp] theorem setEsaveMap_xie (m : LevelMap ExcSave) : (s.setEsaveMap m).xie = s.xie := rfl
@[simp] theorem setEsaveMap_eha (m : LevelMap ExcSave) : (s.setEsaveMap m).eha = s.eha := rfl
@[simp] theorem setEsaveMap_iha (m : LevelMap ExcSave) : (s.setEsaveMap m).iha = s.iha := rfl
@[simp] theorem setEsaveMap_esave (m : LevelMap ExcSave) : (s.setEsaveMap m).esave = m := rfl
@[simp] theorem setEsaveMap_isave (m : LevelMap ExcSave) : (s.setEsaveMap m).isave = s.isave := rfl
@[simp] theorem setEsaveMap_xpend (m : LevelMap ExcSave) : (s.setEsaveMap m).xpend = s.xpend := rfl
@[simp] theorem setEsaveMap_mem (m : LevelMap ExcSave) : (s.setEsaveMap m).mem = s.mem := rfl
@[simp] theorem setEsaveMap_backing (m : LevelMap ExcSave) : (s.setEsaveMap m).backing = s.backing := rfl
@[simp] theorem setEsaveMap_stale (m : LevelMap ExcSave) : (s.setEsaveMap m).stale = s.stale := rfl
@[simp] theorem setEsaveMap_outbox (m : LevelMap ExcSave) : (s.setEsaveMap m).outbox = s.outbox := rfl
@[simp] theorem setEsaveMap_trace (m : LevelMap ExcSave) : (s.setEsaveMap m).trace = s.trace := rfl
@[simp] theorem setEsaveMap_depend (m : LevelMap ExcSave) : (s.setEsaveMap m).depend = s.depend := rfl
@[simp] theorem setEsaveMap_free (m : LevelMap ExcSave) : (s.setEsaveMap m).free = s.free := rfl
@[simp] theorem setEsaveMap_shape (m : LevelMap ExcSave) : (s.setEsaveMap m).shape = s.shape := rfl
@[simp] theorem setEsaveMap_impl (m : LevelMap ExcSave) : (s.setEsaveMap m).impl = s.impl := rfl

@[simp] theorem setIsaveMap_ipmar (m : LevelMap ResumePoint) : (s.setIsaveMap m).ipmar = s.ipmar := rfl
@[simp] theorem setIsaveMap_iidx (m : LevelMap ResumePoint) : (s.setIsaveMap m).iidx = s.iidx := rfl
@[simp] theorem setIsaveMap_entry (m : LevelMap ResumePoint) : (s.setIsaveMap m).entry = s.entry := rfl
@[simp] theorem setIsaveMap_gpr (m : LevelMap ResumePoint) : (s.setIsaveMap m).gpr = s.gpr := rfl
@[simp] theorem setIsaveMap_rnr (m : LevelMap ResumePoint) : (s.setIsaveMap m).rnr = s.rnr := rfl
@[simp] theorem setIsaveMap_cr (m : LevelMap ResumePoint) : (s.setIsaveMap m).cr = s.cr := rfl
@[simp] theorem setIsaveMap_opl (m : LevelMap ResumePoint) : (s.setIsaveMap m).opl = s.opl := rfl
@[simp] theorem setIsaveMap_xie (m : LevelMap ResumePoint) : (s.setIsaveMap m).xie = s.xie := rfl
@[simp] theorem setIsaveMap_eha (m : LevelMap ResumePoint) : (s.setIsaveMap m).eha = s.eha := rfl
@[simp] theorem setIsaveMap_iha (m : LevelMap ResumePoint) : (s.setIsaveMap m).iha = s.iha := rfl
@[simp] theorem setIsaveMap_esave (m : LevelMap ResumePoint) : (s.setIsaveMap m).esave = s.esave := rfl
@[simp] theorem setIsaveMap_isave (m : LevelMap ResumePoint) : (s.setIsaveMap m).isave = m := rfl
@[simp] theorem setIsaveMap_xpend (m : LevelMap ResumePoint) : (s.setIsaveMap m).xpend = s.xpend := rfl
@[simp] theorem setIsaveMap_mem (m : LevelMap ResumePoint) : (s.setIsaveMap m).mem = s.mem := rfl
@[simp] theorem setIsaveMap_backing (m : LevelMap ResumePoint) : (s.setIsaveMap m).backing = s.backing := rfl
@[simp] theorem setIsaveMap_stale (m : LevelMap ResumePoint) : (s.setIsaveMap m).stale = s.stale := rfl
@[simp] theorem setIsaveMap_outbox (m : LevelMap ResumePoint) : (s.setIsaveMap m).outbox = s.outbox := rfl
@[simp] theorem setIsaveMap_trace (m : LevelMap ResumePoint) : (s.setIsaveMap m).trace = s.trace := rfl
@[simp] theorem setIsaveMap_depend (m : LevelMap ResumePoint) : (s.setIsaveMap m).depend = s.depend := rfl
@[simp] theorem setIsaveMap_free (m : LevelMap ResumePoint) : (s.setIsaveMap m).free = s.free := rfl
@[simp] theorem setIsaveMap_shape (m : LevelMap ResumePoint) : (s.setIsaveMap m).shape = s.shape := rfl
@[simp] theorem setIsaveMap_impl (m : LevelMap ResumePoint) : (s.setIsaveMap m).impl = s.impl := rfl

@[simp] theorem setXpend_ipmar (l : List Nat) : (s.setXpend l).ipmar = s.ipmar := rfl
@[simp] theorem setXpend_iidx (l : List Nat) : (s.setXpend l).iidx = s.iidx := rfl
@[simp] theorem setXpend_entry (l : List Nat) : (s.setXpend l).entry = s.entry := rfl
@[simp] theorem setXpend_gpr (l : List Nat) : (s.setXpend l).gpr = s.gpr := rfl
@[simp] theorem setXpend_rnr (l : List Nat) : (s.setXpend l).rnr = s.rnr := rfl
@[simp] theorem setXpend_cr (l : List Nat) : (s.setXpend l).cr = s.cr := rfl
@[simp] theorem setXpend_opl (l : List Nat) : (s.setXpend l).opl = s.opl := rfl
@[simp] theorem setXpend_xie (l : List Nat) : (s.setXpend l).xie = s.xie := rfl
@[simp] theorem setXpend_eha (l : List Nat) : (s.setXpend l).eha = s.eha := rfl
@[simp] theorem setXpend_iha (l : List Nat) : (s.setXpend l).iha = s.iha := rfl
@[simp] theorem setXpend_esave (l : List Nat) : (s.setXpend l).esave = s.esave := rfl
@[simp] theorem setXpend_isave (l : List Nat) : (s.setXpend l).isave = s.isave := rfl
@[simp] theorem setXpend_xpend (l : List Nat) : (s.setXpend l).xpend = l := rfl
@[simp] theorem setXpend_mem (l : List Nat) : (s.setXpend l).mem = s.mem := rfl
@[simp] theorem setXpend_backing (l : List Nat) : (s.setXpend l).backing = s.backing := rfl
@[simp] theorem setXpend_stale (l : List Nat) : (s.setXpend l).stale = s.stale := rfl
@[simp] theorem setXpend_outbox (l : List Nat) : (s.setXpend l).outbox = s.outbox := rfl
@[simp] theorem setXpend_trace (l : List Nat) : (s.setXpend l).trace = s.trace := rfl
@[simp] theorem setXpend_depend (l : List Nat) : (s.setXpend l).depend = s.depend := rfl
@[simp] theorem setXpend_free (l : List Nat) : (s.setXpend l).free = s.free := rfl
@[simp] theorem setXpend_shape (l : List Nat) : (s.setXpend l).shape = s.shape := rfl
@[simp] theorem setXpend_impl (l : List Nat) : (s.setXpend l).impl = s.impl := rfl

@[simp] theorem setMem_ipmar (m : List Host.Cell) : (s.setMem m).ipmar = s.ipmar := rfl
@[simp] theorem setMem_iidx (m : List Host.Cell) : (s.setMem m).iidx = s.iidx := rfl
@[simp] theorem setMem_entry (m : List Host.Cell) : (s.setMem m).entry = s.entry := rfl
@[simp] theorem setMem_gpr (m : List Host.Cell) : (s.setMem m).gpr = s.gpr := rfl
@[simp] theorem setMem_rnr (m : List Host.Cell) : (s.setMem m).rnr = s.rnr := rfl
@[simp] theorem setMem_cr (m : List Host.Cell) : (s.setMem m).cr = s.cr := rfl
@[simp] theorem setMem_opl (m : List Host.Cell) : (s.setMem m).opl = s.opl := rfl
@[simp] theorem setMem_xie (m : List Host.Cell) : (s.setMem m).xie = s.xie := rfl
@[simp] theorem setMem_eha (m : List Host.Cell) : (s.setMem m).eha = s.eha := rfl
@[simp] theorem setMem_iha (m : List Host.Cell) : (s.setMem m).iha = s.iha := rfl
@[simp] theorem setMem_esave (m : List Host.Cell) : (s.setMem m).esave = s.esave := rfl
@[simp] theorem setMem_isave (m : List Host.Cell) : (s.setMem m).isave = s.isave := rfl
@[simp] theorem setMem_xpend (m : List Host.Cell) : (s.setMem m).xpend = s.xpend := rfl
@[simp] theorem setMem_mem (m : List Host.Cell) : (s.setMem m).mem = m := rfl
@[simp] theorem setMem_backing (m : List Host.Cell) : (s.setMem m).backing = s.backing := rfl
@[simp] theorem setMem_stale (m : List Host.Cell) : (s.setMem m).stale = s.stale := rfl
@[simp] theorem setMem_outbox (m : List Host.Cell) : (s.setMem m).outbox = s.outbox := rfl
@[simp] theorem setMem_trace (m : List Host.Cell) : (s.setMem m).trace = s.trace := rfl
@[simp] theorem setMem_depend (m : List Host.Cell) : (s.setMem m).depend = s.depend := rfl
@[simp] theorem setMem_free (m : List Host.Cell) : (s.setMem m).free = s.free := rfl
@[simp] theorem setMem_shape (m : List Host.Cell) : (s.setMem m).shape = s.shape := rfl
@[simp] theorem setMem_impl (m : List Host.Cell) : (s.setMem m).impl = s.impl := rfl

@[simp] theorem setBacking_ipmar (b : List Backing) : (s.setBacking b).ipmar = s.ipmar := rfl
@[simp] theorem setBacking_iidx (b : List Backing) : (s.setBacking b).iidx = s.iidx := rfl
@[simp] theorem setBacking_entry (b : List Backing) : (s.setBacking b).entry = s.entry := rfl
@[simp] theorem setBacking_gpr (b : List Backing) : (s.setBacking b).gpr = s.gpr := rfl
@[simp] theorem setBacking_rnr (b : List Backing) : (s.setBacking b).rnr = s.rnr := rfl
@[simp] theorem setBacking_cr (b : List Backing) : (s.setBacking b).cr = s.cr := rfl
@[simp] theorem setBacking_opl (b : List Backing) : (s.setBacking b).opl = s.opl := rfl
@[simp] theorem setBacking_xie (b : List Backing) : (s.setBacking b).xie = s.xie := rfl
@[simp] theorem setBacking_eha (b : List Backing) : (s.setBacking b).eha = s.eha := rfl
@[simp] theorem setBacking_iha (b : List Backing) : (s.setBacking b).iha = s.iha := rfl
@[simp] theorem setBacking_esave (b : List Backing) : (s.setBacking b).esave = s.esave := rfl
@[simp] theorem setBacking_isave (b : List Backing) : (s.setBacking b).isave = s.isave := rfl
@[simp] theorem setBacking_xpend (b : List Backing) : (s.setBacking b).xpend = s.xpend := rfl
@[simp] theorem setBacking_mem (b : List Backing) : (s.setBacking b).mem = s.mem := rfl
@[simp] theorem setBacking_backing (b : List Backing) : (s.setBacking b).backing = b := rfl
@[simp] theorem setBacking_stale (b : List Backing) : (s.setBacking b).stale = s.stale := rfl
@[simp] theorem setBacking_outbox (b : List Backing) : (s.setBacking b).outbox = s.outbox := rfl
@[simp] theorem setBacking_trace (b : List Backing) : (s.setBacking b).trace = s.trace := rfl
@[simp] theorem setBacking_depend (b : List Backing) : (s.setBacking b).depend = s.depend := rfl
@[simp] theorem setBacking_free (b : List Backing) : (s.setBacking b).free = s.free := rfl
@[simp] theorem setBacking_shape (b : List Backing) : (s.setBacking b).shape = s.shape := rfl
@[simp] theorem setBacking_impl (b : List Backing) : (s.setBacking b).impl = s.impl := rfl

@[simp] theorem setStale_ipmar (l : List (Nat × Word)) : (s.setStale l).ipmar = s.ipmar := rfl
@[simp] theorem setStale_iidx (l : List (Nat × Word)) : (s.setStale l).iidx = s.iidx := rfl
@[simp] theorem setStale_entry (l : List (Nat × Word)) : (s.setStale l).entry = s.entry := rfl
@[simp] theorem setStale_gpr (l : List (Nat × Word)) : (s.setStale l).gpr = s.gpr := rfl
@[simp] theorem setStale_rnr (l : List (Nat × Word)) : (s.setStale l).rnr = s.rnr := rfl
@[simp] theorem setStale_cr (l : List (Nat × Word)) : (s.setStale l).cr = s.cr := rfl
@[simp] theorem setStale_opl (l : List (Nat × Word)) : (s.setStale l).opl = s.opl := rfl
@[simp] theorem setStale_xie (l : List (Nat × Word)) : (s.setStale l).xie = s.xie := rfl
@[simp] theorem setStale_eha (l : List (Nat × Word)) : (s.setStale l).eha = s.eha := rfl
@[simp] theorem setStale_iha (l : List (Nat × Word)) : (s.setStale l).iha = s.iha := rfl
@[simp] theorem setStale_esave (l : List (Nat × Word)) : (s.setStale l).esave = s.esave := rfl
@[simp] theorem setStale_isave (l : List (Nat × Word)) : (s.setStale l).isave = s.isave := rfl
@[simp] theorem setStale_xpend (l : List (Nat × Word)) : (s.setStale l).xpend = s.xpend := rfl
@[simp] theorem setStale_mem (l : List (Nat × Word)) : (s.setStale l).mem = s.mem := rfl
@[simp] theorem setStale_backing (l : List (Nat × Word)) : (s.setStale l).backing = s.backing := rfl
@[simp] theorem setStale_stale (l : List (Nat × Word)) : (s.setStale l).stale = l := rfl
@[simp] theorem setStale_outbox (l : List (Nat × Word)) : (s.setStale l).outbox = s.outbox := rfl
@[simp] theorem setStale_trace (l : List (Nat × Word)) : (s.setStale l).trace = s.trace := rfl
@[simp] theorem setStale_depend (l : List (Nat × Word)) : (s.setStale l).depend = s.depend := rfl
@[simp] theorem setStale_free (l : List (Nat × Word)) : (s.setStale l).free = s.free := rfl
@[simp] theorem setStale_shape (l : List (Nat × Word)) : (s.setStale l).shape = s.shape := rfl
@[simp] theorem setStale_impl (l : List (Nat × Word)) : (s.setStale l).impl = s.impl := rfl

@[simp] theorem setOutbox_ipmar (l : List Sent) : (s.setOutbox l).ipmar = s.ipmar := rfl
@[simp] theorem setOutbox_iidx (l : List Sent) : (s.setOutbox l).iidx = s.iidx := rfl
@[simp] theorem setOutbox_entry (l : List Sent) : (s.setOutbox l).entry = s.entry := rfl
@[simp] theorem setOutbox_gpr (l : List Sent) : (s.setOutbox l).gpr = s.gpr := rfl
@[simp] theorem setOutbox_rnr (l : List Sent) : (s.setOutbox l).rnr = s.rnr := rfl
@[simp] theorem setOutbox_cr (l : List Sent) : (s.setOutbox l).cr = s.cr := rfl
@[simp] theorem setOutbox_opl (l : List Sent) : (s.setOutbox l).opl = s.opl := rfl
@[simp] theorem setOutbox_xie (l : List Sent) : (s.setOutbox l).xie = s.xie := rfl
@[simp] theorem setOutbox_eha (l : List Sent) : (s.setOutbox l).eha = s.eha := rfl
@[simp] theorem setOutbox_iha (l : List Sent) : (s.setOutbox l).iha = s.iha := rfl
@[simp] theorem setOutbox_esave (l : List Sent) : (s.setOutbox l).esave = s.esave := rfl
@[simp] theorem setOutbox_isave (l : List Sent) : (s.setOutbox l).isave = s.isave := rfl
@[simp] theorem setOutbox_xpend (l : List Sent) : (s.setOutbox l).xpend = s.xpend := rfl
@[simp] theorem setOutbox_mem (l : List Sent) : (s.setOutbox l).mem = s.mem := rfl
@[simp] theorem setOutbox_backing (l : List Sent) : (s.setOutbox l).backing = s.backing := rfl
@[simp] theorem setOutbox_stale (l : List Sent) : (s.setOutbox l).stale = s.stale := rfl
@[simp] theorem setOutbox_outbox (l : List Sent) : (s.setOutbox l).outbox = l := rfl
@[simp] theorem setOutbox_trace (l : List Sent) : (s.setOutbox l).trace = s.trace := rfl
@[simp] theorem setOutbox_depend (l : List Sent) : (s.setOutbox l).depend = s.depend := rfl
@[simp] theorem setOutbox_free (l : List Sent) : (s.setOutbox l).free = s.free := rfl
@[simp] theorem setOutbox_shape (l : List Sent) : (s.setOutbox l).shape = s.shape := rfl
@[simp] theorem setOutbox_impl (l : List Sent) : (s.setOutbox l).impl = s.impl := rfl

@[simp] theorem noteBy_ipmar (i : Initiator) (e : MemEvent) : (s.noteBy i e).ipmar = s.ipmar := rfl
@[simp] theorem noteBy_iidx (i : Initiator) (e : MemEvent) : (s.noteBy i e).iidx = s.iidx := rfl
@[simp] theorem noteBy_entry (i : Initiator) (e : MemEvent) : (s.noteBy i e).entry = s.entry := rfl
@[simp] theorem noteBy_gpr (i : Initiator) (e : MemEvent) : (s.noteBy i e).gpr = s.gpr := rfl
@[simp] theorem noteBy_rnr (i : Initiator) (e : MemEvent) : (s.noteBy i e).rnr = s.rnr := rfl
@[simp] theorem noteBy_cr (i : Initiator) (e : MemEvent) : (s.noteBy i e).cr = s.cr := rfl
@[simp] theorem noteBy_opl (i : Initiator) (e : MemEvent) : (s.noteBy i e).opl = s.opl := rfl
@[simp] theorem noteBy_xie (i : Initiator) (e : MemEvent) : (s.noteBy i e).xie = s.xie := rfl
@[simp] theorem noteBy_eha (i : Initiator) (e : MemEvent) : (s.noteBy i e).eha = s.eha := rfl
@[simp] theorem noteBy_iha (i : Initiator) (e : MemEvent) : (s.noteBy i e).iha = s.iha := rfl
@[simp] theorem noteBy_esave (i : Initiator) (e : MemEvent) : (s.noteBy i e).esave = s.esave := rfl
@[simp] theorem noteBy_isave (i : Initiator) (e : MemEvent) : (s.noteBy i e).isave = s.isave := rfl
@[simp] theorem noteBy_xpend (i : Initiator) (e : MemEvent) : (s.noteBy i e).xpend = s.xpend := rfl
@[simp] theorem noteBy_mem (i : Initiator) (e : MemEvent) : (s.noteBy i e).mem = s.mem := rfl
@[simp] theorem noteBy_backing (i : Initiator) (e : MemEvent) : (s.noteBy i e).backing = s.backing := rfl
@[simp] theorem noteBy_stale (i : Initiator) (e : MemEvent) : (s.noteBy i e).stale = s.stale := rfl
@[simp] theorem noteBy_outbox (i : Initiator) (e : MemEvent) : (s.noteBy i e).outbox = s.outbox := rfl
@[simp] theorem noteBy_trace (i : Initiator) (e : MemEvent) : (s.noteBy i e).trace = ⟨i, e⟩ :: s.trace := rfl
@[simp] theorem noteBy_depend (i : Initiator) (e : MemEvent) : (s.noteBy i e).depend = s.depend := rfl
@[simp] theorem noteBy_free (i : Initiator) (e : MemEvent) : (s.noteBy i e).free = s.free := rfl
@[simp] theorem noteBy_shape (i : Initiator) (e : MemEvent) : (s.noteBy i e).shape = s.shape := rfl
@[simp] theorem noteBy_impl (i : Initiator) (e : MemEvent) : (s.noteBy i e).impl = s.impl := rfl

@[simp] theorem note_ipmar (e : MemEvent) : (s.note e).ipmar = s.ipmar := rfl
@[simp] theorem note_iidx (e : MemEvent) : (s.note e).iidx = s.iidx := rfl
@[simp] theorem note_entry (e : MemEvent) : (s.note e).entry = s.entry := rfl
@[simp] theorem note_gpr (e : MemEvent) : (s.note e).gpr = s.gpr := rfl
@[simp] theorem note_rnr (e : MemEvent) : (s.note e).rnr = s.rnr := rfl
@[simp] theorem note_cr (e : MemEvent) : (s.note e).cr = s.cr := rfl
@[simp] theorem note_opl (e : MemEvent) : (s.note e).opl = s.opl := rfl
@[simp] theorem note_xie (e : MemEvent) : (s.note e).xie = s.xie := rfl
@[simp] theorem note_eha (e : MemEvent) : (s.note e).eha = s.eha := rfl
@[simp] theorem note_iha (e : MemEvent) : (s.note e).iha = s.iha := rfl
@[simp] theorem note_esave (e : MemEvent) : (s.note e).esave = s.esave := rfl
@[simp] theorem note_isave (e : MemEvent) : (s.note e).isave = s.isave := rfl
@[simp] theorem note_xpend (e : MemEvent) : (s.note e).xpend = s.xpend := rfl
@[simp] theorem note_mem (e : MemEvent) : (s.note e).mem = s.mem := rfl
@[simp] theorem note_backing (e : MemEvent) : (s.note e).backing = s.backing := rfl
@[simp] theorem note_stale (e : MemEvent) : (s.note e).stale = s.stale := rfl
@[simp] theorem note_outbox (e : MemEvent) : (s.note e).outbox = s.outbox := rfl
@[simp] theorem note_trace (e : MemEvent) : (s.note e).trace = ⟨.self, e⟩ :: s.trace := rfl
@[simp] theorem note_depend (e : MemEvent) : (s.note e).depend = s.depend := rfl
@[simp] theorem note_free (e : MemEvent) : (s.note e).free = s.free := rfl
@[simp] theorem note_shape (e : MemEvent) : (s.note e).shape = s.shape := rfl
@[simp] theorem note_impl (e : MemEvent) : (s.note e).impl = s.impl := rfl

@[simp] theorem setDepend_ipmar (d : Dependences) : (s.setDepend d).ipmar = s.ipmar := rfl
@[simp] theorem setDepend_iidx (d : Dependences) : (s.setDepend d).iidx = s.iidx := rfl
@[simp] theorem setDepend_entry (d : Dependences) : (s.setDepend d).entry = s.entry := rfl
@[simp] theorem setDepend_gpr (d : Dependences) : (s.setDepend d).gpr = s.gpr := rfl
@[simp] theorem setDepend_rnr (d : Dependences) : (s.setDepend d).rnr = s.rnr := rfl
@[simp] theorem setDepend_cr (d : Dependences) : (s.setDepend d).cr = s.cr := rfl
@[simp] theorem setDepend_opl (d : Dependences) : (s.setDepend d).opl = s.opl := rfl
@[simp] theorem setDepend_xie (d : Dependences) : (s.setDepend d).xie = s.xie := rfl
@[simp] theorem setDepend_eha (d : Dependences) : (s.setDepend d).eha = s.eha := rfl
@[simp] theorem setDepend_iha (d : Dependences) : (s.setDepend d).iha = s.iha := rfl
@[simp] theorem setDepend_esave (d : Dependences) : (s.setDepend d).esave = s.esave := rfl
@[simp] theorem setDepend_isave (d : Dependences) : (s.setDepend d).isave = s.isave := rfl
@[simp] theorem setDepend_xpend (d : Dependences) : (s.setDepend d).xpend = s.xpend := rfl
@[simp] theorem setDepend_mem (d : Dependences) : (s.setDepend d).mem = s.mem := rfl
@[simp] theorem setDepend_backing (d : Dependences) : (s.setDepend d).backing = s.backing := rfl
@[simp] theorem setDepend_stale (d : Dependences) : (s.setDepend d).stale = s.stale := rfl
@[simp] theorem setDepend_outbox (d : Dependences) : (s.setDepend d).outbox = s.outbox := rfl
@[simp] theorem setDepend_trace (d : Dependences) : (s.setDepend d).trace = s.trace := rfl
@[simp] theorem setDepend_depend (d : Dependences) : (s.setDepend d).depend = d := rfl
@[simp] theorem setDepend_free (d : Dependences) : (s.setDepend d).free = s.free := rfl
@[simp] theorem setDepend_shape (d : Dependences) : (s.setDepend d).shape = s.shape := rfl
@[simp] theorem setDepend_impl (d : Dependences) : (s.setDepend d).impl = s.impl := rfl

@[simp] theorem setFree_ipmar (n : Nat) : (s.setFree n).ipmar = s.ipmar := rfl
@[simp] theorem setFree_iidx (n : Nat) : (s.setFree n).iidx = s.iidx := rfl
@[simp] theorem setFree_entry (n : Nat) : (s.setFree n).entry = s.entry := rfl
@[simp] theorem setFree_gpr (n : Nat) : (s.setFree n).gpr = s.gpr := rfl
@[simp] theorem setFree_rnr (n : Nat) : (s.setFree n).rnr = s.rnr := rfl
@[simp] theorem setFree_cr (n : Nat) : (s.setFree n).cr = s.cr := rfl
@[simp] theorem setFree_opl (n : Nat) : (s.setFree n).opl = s.opl := rfl
@[simp] theorem setFree_xie (n : Nat) : (s.setFree n).xie = s.xie := rfl
@[simp] theorem setFree_eha (n : Nat) : (s.setFree n).eha = s.eha := rfl
@[simp] theorem setFree_iha (n : Nat) : (s.setFree n).iha = s.iha := rfl
@[simp] theorem setFree_esave (n : Nat) : (s.setFree n).esave = s.esave := rfl
@[simp] theorem setFree_isave (n : Nat) : (s.setFree n).isave = s.isave := rfl
@[simp] theorem setFree_xpend (n : Nat) : (s.setFree n).xpend = s.xpend := rfl
@[simp] theorem setFree_mem (n : Nat) : (s.setFree n).mem = s.mem := rfl
@[simp] theorem setFree_backing (n : Nat) : (s.setFree n).backing = s.backing := rfl
@[simp] theorem setFree_stale (n : Nat) : (s.setFree n).stale = s.stale := rfl
@[simp] theorem setFree_outbox (n : Nat) : (s.setFree n).outbox = s.outbox := rfl
@[simp] theorem setFree_trace (n : Nat) : (s.setFree n).trace = s.trace := rfl
@[simp] theorem setFree_depend (n : Nat) : (s.setFree n).depend = s.depend := rfl
@[simp] theorem setFree_free (n : Nat) : (s.setFree n).free = n := rfl
@[simp] theorem setFree_shape (n : Nat) : (s.setFree n).shape = s.shape := rfl
@[simp] theorem setFree_impl (n : Nat) : (s.setFree n).impl = s.impl := rfl

@[simp] theorem drawn_ipmar : (s.drawn).ipmar = s.ipmar := rfl
@[simp] theorem drawn_iidx : (s.drawn).iidx = s.iidx := rfl
@[simp] theorem drawn_entry : (s.drawn).entry = s.entry := rfl
@[simp] theorem drawn_gpr : (s.drawn).gpr = s.gpr := rfl
@[simp] theorem drawn_rnr : (s.drawn).rnr = s.rnr := rfl
@[simp] theorem drawn_cr : (s.drawn).cr = s.cr := rfl
@[simp] theorem drawn_opl : (s.drawn).opl = s.opl := rfl
@[simp] theorem drawn_xie : (s.drawn).xie = s.xie := rfl
@[simp] theorem drawn_eha : (s.drawn).eha = s.eha := rfl
@[simp] theorem drawn_iha : (s.drawn).iha = s.iha := rfl
@[simp] theorem drawn_esave : (s.drawn).esave = s.esave := rfl
@[simp] theorem drawn_isave : (s.drawn).isave = s.isave := rfl
@[simp] theorem drawn_xpend : (s.drawn).xpend = s.xpend := rfl
@[simp] theorem drawn_mem : (s.drawn).mem = s.mem := rfl
@[simp] theorem drawn_backing : (s.drawn).backing = s.backing := rfl
@[simp] theorem drawn_stale : (s.drawn).stale = s.stale := rfl
@[simp] theorem drawn_outbox : (s.drawn).outbox = s.outbox := rfl
@[simp] theorem drawn_trace : (s.drawn).trace = s.trace := rfl
@[simp] theorem drawn_depend : (s.drawn).depend = s.depend := rfl
@[simp] theorem drawn_free : (s.drawn).free = s.free + 1 := rfl
@[simp] theorem drawn_shape : (s.drawn).shape = s.shape := rfl
@[simp] theorem drawn_impl : (s.drawn).impl = s.impl := rfl

@[simp] theorem setShape_ipmar (h : Shape) : (s.setShape h).ipmar = s.ipmar := rfl
@[simp] theorem setShape_iidx (h : Shape) : (s.setShape h).iidx = s.iidx := rfl
@[simp] theorem setShape_entry (h : Shape) : (s.setShape h).entry = s.entry := rfl
@[simp] theorem setShape_gpr (h : Shape) : (s.setShape h).gpr = s.gpr := rfl
@[simp] theorem setShape_rnr (h : Shape) : (s.setShape h).rnr = s.rnr := rfl
@[simp] theorem setShape_cr (h : Shape) : (s.setShape h).cr = s.cr := rfl
@[simp] theorem setShape_opl (h : Shape) : (s.setShape h).opl = s.opl := rfl
@[simp] theorem setShape_xie (h : Shape) : (s.setShape h).xie = s.xie := rfl
@[simp] theorem setShape_eha (h : Shape) : (s.setShape h).eha = s.eha := rfl
@[simp] theorem setShape_iha (h : Shape) : (s.setShape h).iha = s.iha := rfl
@[simp] theorem setShape_esave (h : Shape) : (s.setShape h).esave = s.esave := rfl
@[simp] theorem setShape_isave (h : Shape) : (s.setShape h).isave = s.isave := rfl
@[simp] theorem setShape_xpend (h : Shape) : (s.setShape h).xpend = s.xpend := rfl
@[simp] theorem setShape_mem (h : Shape) : (s.setShape h).mem = s.mem := rfl
@[simp] theorem setShape_backing (h : Shape) : (s.setShape h).backing = s.backing := rfl
@[simp] theorem setShape_stale (h : Shape) : (s.setShape h).stale = s.stale := rfl
@[simp] theorem setShape_outbox (h : Shape) : (s.setShape h).outbox = s.outbox := rfl
@[simp] theorem setShape_trace (h : Shape) : (s.setShape h).trace = s.trace := rfl
@[simp] theorem setShape_depend (h : Shape) : (s.setShape h).depend = s.depend := rfl
@[simp] theorem setShape_free (h : Shape) : (s.setShape h).free = s.free := rfl
@[simp] theorem setShape_shape (h : Shape) : (s.setShape h).shape = h := rfl
@[simp] theorem setShape_impl (h : Shape) : (s.setShape h).impl = s.impl := rfl

end Sys2Proof.Machine.State
end

