-- ==== Sys2Proof/Laws/Memory.lean ====
section
/-! SUPPORT. The laws of the primary memory: a read after a write, canonical form, little-endian units. -/

namespace Sys2Proof.Machine

open Sys2Proof

namespace Memory

theorem read_insert (m : List Host.Cell) (a b : Nat) (v : Octet) :
    read (insert m a v) b = if b = a then v else read m b := by
  induction m with
  | nil =>
    by_cases h : b = a
    · subst h; simp [insert, read]
    · simp [insert, read, h, Ne.symm h]
  | cons c m ih =>
    obtain ⟨k, w⟩ := c
    simp only [insert]
    split
    · simp only [read, ih]
      by_cases hb : b = a
      · rw [if_pos hb, if_pos hb, if_neg (by omega)]
      · rw [if_neg hb, if_neg hb]
    · split
      · rename_i h
        subst h
        by_cases hb : b = k <;> simp [read, hb, eq_comm]
      · by_cases hb : b = a
        · subst hb; simp [read]
        · simp only [read, if_neg hb, if_neg (Ne.symm hb)]

theorem read_filter (m : List Host.Cell) (a b : Nat) :
    read (m.filter fun c => c.1 != a) b = if b = a then unwritten else read m b := by
  induction m with
  | nil => simp [read]
  | cons c m ih =>
    obtain ⟨k, w⟩ := c
    by_cases h : k = a
    · subst h
      by_cases hb : b = k
      · subst hb; simpa using ih
      · simp only [read, if_neg hb, if_neg (Ne.symm hb)] at ih ⊢
        simpa using ih
    · by_cases hk : k = b
      · subst hk; simp [h, read]
      · simp [h, hk, read, ih]

/-- A write is read back at its location and leaves every other location alone. -/
theorem read_write (m : List Host.Cell) (a b : Nat) (v : Octet) :
    read (write m a v) b = if b = a then v else read m b := by
  unfold write
  split
  · rename_i h; rw [read_filter, h]
  · exact read_insert m a b v

@[simp] theorem read_write_same (m : List Host.Cell) (a : Nat) (v : Octet) : read (write m a v) a = v := by
  simp [read_write]

theorem read_write_other (m : List Host.Cell) {a b : Nat} (v : Octet) (h : b ≠ a) :
    read (write m a v) b = read m b := by
  simp [read_write, h]

/-! ### Canonical form -/

theorem wfFrom_mono {lo lo' : Nat} (m : List Host.Cell) (h : lo' ≤ lo) (hm : wfFrom lo m = true) :
    wfFrom lo' m = true := by
  cases m with
  | nil => rfl
  | cons c m => obtain ⟨k, w⟩ := c; simp [wfFrom] at hm ⊢; exact ⟨⟨⟨by omega, hm.1.1.2⟩, hm.1.2⟩, hm.2⟩

theorem wfFrom_insert (m : List Host.Cell) (lo a : Nat) (v : Octet) (hlo : lo ≤ a) (ha : a < locations)
    (hv : v ≠ unwritten) (hm : wfFrom lo m = true) : wfFrom lo (insert m a v) = true := by
  induction m generalizing lo with
  | nil => simp [insert, wfFrom, hlo, ha, hv]
  | cons c m ih =>
    obtain ⟨k, w⟩ := c
    simp only [wfFrom, Bool.and_eq_true, decide_eq_true_eq, bne_iff_ne] at hm
    simp only [insert]
    split
    · simp only [wfFrom, Bool.and_eq_true, decide_eq_true_eq, bne_iff_ne]
      exact ⟨hm.1, ih (k + 1) (by omega) hm.2⟩
    · split
      · rename_i h
        subst h
        simp only [wfFrom, Bool.and_eq_true, decide_eq_true_eq, bne_iff_ne]
        exact ⟨⟨⟨hlo, ha⟩, hv⟩, hm.2⟩
      · simp only [wfFrom, Bool.and_eq_true, decide_eq_true_eq, bne_iff_ne]
        exact ⟨⟨⟨hlo, ha⟩, hv⟩, ⟨⟨by omega, hm.1.1.2⟩, hm.1.2⟩, hm.2⟩

theorem wfFrom_filter (m : List Host.Cell) (lo a : Nat) (hm : wfFrom lo m = true) :
    wfFrom lo (m.filter fun c => c.1 != a) = true := by
  induction m generalizing lo with
  | nil => rfl
  | cons c m ih =>
    obtain ⟨k, w⟩ := c
    simp only [wfFrom, Bool.and_eq_true, decide_eq_true_eq, bne_iff_ne] at hm
    by_cases h : k = a
    · simp only [List.filter_cons, h, bne_self_eq_false]
      exact ih lo (wfFrom_mono m (by omega) hm.2)
    · have hb : (k != a) = true := by simp [h]
      simp only [List.filter_cons, hb, if_true, wfFrom, Bool.and_eq_true, decide_eq_true_eq, bne_iff_ne]
      exact ⟨hm.1, ih (k + 1) hm.2⟩

/-- Every write of an octet that exists keeps the canonical form. -/
theorem wf_write {m : List Host.Cell} {a : Nat} (v : Octet) (ha : a < locations) (hm : wf m = true) :
    wf (write m a v) = true := by
  unfold write
  split
  · exact wfFrom_filter m 0 a hm
  · exact wfFrom_insert m 0 a v (Nat.zero_le a) ha ‹_› hm

/-- Every write of a unit that lies in the memory keeps the canonical form. -/
theorem wf_writeLE (n : Nat) {m : List Host.Cell} {a : Nat} (v : Nat) (ha : a + n ≤ locations) (hm : wf m = true) :
    wf (writeLE m a n v) = true := by
  induction n generalizing a v with
  | zero => exact hm
  | succ n ih => exact wf_write _ (by omega) (ih (v / 256) (by omega))

/-! ### Units -/

/-- What an octet reads as after a unit of n octets was written at a: octet i of the unit at a + i (R68), anything else as
before. -/
theorem read_writeLE (n : Nat) (m : List Host.Cell) (a b v : Nat) :
    read (writeLE m a n v) b =
      if a ≤ b ∧ b < a + n then BitVec.ofNat 8 (v / 256 ^ (b - a)) else read m b := by
  induction n generalizing a v with
  | zero => simp [writeLE]
  | succ n ih =>
    rw [writeLE, read_write, ih]
    by_cases hb : b = a
    · subst hb; simp
    · rw [if_neg hb]
      by_cases h : a + 1 ≤ b ∧ b < a + 1 + n
      · rw [if_pos h, if_pos (by omega)]
        have : b - a = (b - (a + 1)) + 1 := by omega
        rw [this, Nat.div_div_eq_div_mul, Nat.pow_succ, Nat.mul_comm 256]
      · rw [if_neg h, if_neg (by omega)]

theorem read_writeLE_outside (n : Nat) (m : List Host.Cell) (a v : Nat) {b : Nat} (h : b < a ∨ a + n ≤ b) :
    read (writeLE m a n v) b = read m b := by
  rw [read_writeLE, if_neg (by omega)]

/-- A unit depends on its octets only. -/
theorem readLE_congr (n : Nat) {m m' : List Host.Cell} {a : Nat}
    (h : ∀ b, a ≤ b → b < a + n → read m b = read m' b) : readLE m a n = readLE m' a n := by
  induction n generalizing a with
  | zero => rfl
  | succ n ih =>
    rw [readLE, readLE, h a (by omega) (by omega), ih fun b hb hb' => h b (by omega) (by omega)]

theorem readLE_lt (n : Nat) (m : List Host.Cell) (a : Nat) : readLE m a n < 256 ^ n := by
  induction n generalizing a with
  | zero => simp [readLE]
  | succ n ih =>
    have h1 := (read m a).isLt
    have h2 := ih (a + 1)
    rw [readLE, Nat.pow_succ]
    omega

/-- Bit k of a unit is bit k mod 8 of its octet k / 8 (R68). -/
theorem testBit_readLE (n : Nat) (m : List Host.Cell) (a k : Nat) :
    (readLE m a n).testBit k = (decide (k < 8 * n) && (read m (a + k / 8)).getLsbD (k % 8)) := by
  induction n generalizing a k with
  | zero => simp [readLE]
  | succ n ih =>
    have e : readLE m a (n + 1) = 2 ^ 8 * readLE m (a + 1) n + (read m a).toNat := by rw [readLE]; omega
    rw [e, Nat.testBit_two_pow_mul_add _ (read m a).isLt]
    by_cases hk : k < 8
    · simp [hk, BitVec.getLsbD, show k / 8 = 0 by omega, show k % 8 = k by omega]; omega
    · rw [if_neg hk, ih, show a + 1 + (k - 8) / 8 = a + k / 8 by omega, show (k - 8) % 8 = k % 8 by omega,
        show decide (k - 8 < 8 * n) = decide (k < 8 * (n + 1)) from decide_eq_decide.mpr (by omega)]

/-- A unit written is read back, as far as it fits. -/
theorem readLE_writeLE (n : Nat) (m : List Host.Cell) (a v : Nat) :
    readLE (writeLE m a n v) a n = v % 256 ^ n := by
  induction n generalizing a v with
  | zero => simp [readLE, Nat.mod_one]
  | succ n ih =>
    have hrest : readLE (writeLE m a (n + 1) v) (a + 1) n = (v / 256) % 256 ^ n := by
      rw [← ih (a + 1) (v / 256)]
      exact readLE_congr n fun b hb _ => by rw [writeLE, read_write_other _ _ (by omega)]
    have hfirst : read (writeLE m a (n + 1) v) a = BitVec.ofNat 8 v := by rw [writeLE, read_write_same]
    have h256 : (BitVec.ofNat 8 v).toNat = v % 256 := BitVec.toNat_ofNat ..
    rw [readLE, hfirst, hrest, h256, Nat.pow_succ', Nat.mod_mul]

/-- A unit outside the octets written reads as before. -/
theorem readLE_writeLE_disjoint (n k : Nat) (m : List Host.Cell) (a b v : Nat) (h : a + n ≤ b ∨ b + k ≤ a) :
    readLE (writeLE m a n v) b k = readLE m b k :=
  readLE_congr k fun c hc hc' => read_writeLE_outside n m a v (by omega)

theorem readWord_writeWord (m : List Host.Cell) (w : Nat) (v : Word) : readWord (writeWord m w v) w = v := by
  have hv : v.toNat % 256 ^ 16 = v.toNat := Nat.mod_eq_of_lt (by have := v.isLt; omega)
  rw [readWord, writeWord, readLE_writeLE, hv, BitVec.ofNat_toNat, BitVec.setWidth_eq]

theorem readWord_writeWord_other (m : List Host.Cell) {w x : Nat} (v : Word) (h : x ≠ w) :
    readWord (writeWord m w v) x = readWord m x := by
  rw [readWord, readWord, writeWord, readLE_writeLE_disjoint 16 16 m (16 * w) (16 * x) v.toNat (by omega)]

end Memory

namespace State

/-- A write keeps the canonical form (`put` is what every writer does). -/
theorem wf_put {s : State} {a n : Nat} (v : Nat) (ha : a + n ≤ Memory.locations) (h : Memory.wf s.mem = true) :
    Memory.wf (s.put a n v).mem = true := by
  unfold put
  split
  · exact Memory.wf_writeLE n v ha h
  · exact h

theorem octetAt_put (s : State) (a n v b : Nat) :
    (s.put a n v).octetAt b =
      if s.isBacked (a / 16) = true ∧ a ≤ b ∧ b < a + n then BitVec.ofNat 8 (v / 256 ^ (b - a)) else s.octetAt b := by
  unfold put octetAt
  split
  · rename_i h; simp [h, Memory.read_writeLE]
  · rename_i h; simp [h]

/-- Everything a write of this processor can do: nothing where the location is unbacked (R84); otherwise the octets, the
superseded content and one event. -/
theorem store_cases (s : State) (a n v : Nat) :
    (s.isBacked (a / 16) = false ∧ s.store a n v = s) ∨
    (s.isBacked (a / 16) = true ∧ s.store a n v =
      ((s.setStale (s.superseded (a / 16))).setMem (Memory.writeLE s.mem a n v)).note (.write (a / 16))) := by
  unfold store put
  by_cases h : s.isBacked (a / 16) = true <;> simp [h]

theorem octetAt_store (s : State) (a n v b : Nat) :
    (s.store a n v).octetAt b =
      if s.isBacked (a / 16) = true ∧ a ≤ b ∧ b < a + n then BitVec.ofNat 8 (v / 256 ^ (b - a)) else s.octetAt b := by
  rw [← octetAt_put]
  unfold store
  split
  · rfl
  · rename_i h; simp [put, h]

/-- Everything a word read can do: it notes a read event, and draws a free value where the location is unbacked. -/
theorem memReadW_cases (s : State) (wa : Word) :
    (s.isBacked (s.wordLocation wa) = true ∧
      s.memReadW wa = (Memory.readWord s.mem (s.wordLocation wa), s.note (.read (s.wordLocation wa)))) ∨
    (s.isBacked (s.wordLocation wa) = false ∧
      s.memReadW wa = (Config.freeWord s.free, (s.note (.read (s.wordLocation wa))).drawn)) := by
  unfold memReadW
  by_cases h : s.isBacked (s.wordLocation wa) = true <;> simp [h]

/-- Everything a fetch can do: answer a word, and at most draw a free value. -/
theorem fetch_state (s : State) (a : Word) : (s.fetch a).2 = s ∨ (s.fetch a).2 = s.drawn := by
  simp only [fetch]
  split
  · split
    · exact .inl rfl
    · exact .inr rfl
  · exact .inr rfl

/-- A fetch of a backed word location that nothing has written since coherence was last enforced answers the memory's
content and changes nothing (R164). -/
theorem fetch_backed {s : State} {a : Word} (hb : s.isBacked (s.wordLocation a) = true)
    (ho : s.oldContents (s.wordLocation a) = []) :
    s.fetch a = (Memory.readWord s.mem (s.wordLocation a), s) := by
  simp only [fetch, hb, ho, if_true]

end State

end Sys2Proof.Machine
end

