-- ==== Sys2Proof/Laws/Ops.lean ====
section
/-! SUPPORT. For each shared operation, once, everything it can do. -/

namespace Sys2Proof.Machine

open Sys2Proof

/-! ### Halves of registers -/

@[simp] theorem halfOf_withHalf_same (w : Word) (h : Nat) (v : SemiWord) : halfOf (withHalf w h v) h = v := by
  unfold halfOf withHalf
  split
  · rw [BitVec.extractLsb'_append_eq_of_add_le (by decide)]; simp
  · rw [BitVec.extractLsb'_append_eq_of_le (by decide)]; simp

theorem halfOf_withHalf_other (w : Word) {h k : Nat} (v : SemiWord) (hk : (h = 0) ≠ (k = 0)) :
    halfOf (withHalf w h v) k = halfOf w k := by
  unfold halfOf withHalf
  by_cases h0 : h = 0 <;> by_cases k0 : k = 0 <;> simp [h0, k0] at hk ⊢
  · rw [BitVec.extractLsb'_append_eq_of_le (by decide)]; simp
  · rw [BitVec.extractLsb'_append_eq_of_add_le (by decide)]; simp

namespace LevelMap

theorem get_put {α : Type} (m : LevelMap α) (p q : Nat) (v d : α) :
    get (put m p v) q d = if q = p then v else get m q d := by
  induction m with
  | nil =>
    by_cases h : q = p
    · subst h; simp [put, get]
    · simp [put, get, h, Ne.symm h]
  | cons c m ih =>
    obtain ⟨k, w⟩ := c
    simp only [put]
    split
    · simp only [get, ih]
      by_cases hq : q = p
      · rw [if_pos hq, if_pos hq, if_neg (by omega)]
      · rw [if_neg hq, if_neg hq]
    · split
      · rename_i h
        subst h
        by_cases hq : q = k
        · subst hq; simp [get]
        · simp [get, hq, Ne.symm hq]
      · by_cases hq : q = p
        · subst hq; simp [get]
        · simp only [get, if_neg hq, if_neg (Ne.symm hq)]

end LevelMap

namespace State

variable (s : State)

/-! ### Per-level state -/

@[simp] theorem ehaAt_setEha (p q : Nat) (a : Word) : (s.setEha p a).ehaAt q = if q = p then a else s.ehaAt q :=
  LevelMap.get_put ..
@[simp] theorem ihaAt_setIha (p q : Nat) (a : Word) : (s.setIha p a).ihaAt q = if q = p then a else s.ihaAt q :=
  LevelMap.get_put ..
@[simp] theorem esaveAt_setEsave (p q : Nat) (r : ExcSave) :
    (s.setEsave p r).esaveAt q = if q = p then r else s.esaveAt q := LevelMap.get_put ..
@[simp] theorem isaveAt_setIsave (p q : Nat) (r : ResumePoint) :
    (s.setIsave p r).isaveAt q = if q = p then r else s.isaveAt q := LevelMap.get_put ..

/-! ### Sequencing and entries: the whole state after them -/

theorem controlTransfer_eq (target : Word) :
    s.controlTransfer target = { s with ipmar := trunc s.impl target, iidx := 0, entry := .transfer } := rfl

/-- Everything `Advance()` can do (R174). -/
theorem advance_cases :
    (s.iidx.val + 1 < s.shape.n ∧ s.advance = { s with iidx := s.iidx + 1 }) ∨
    (s.shape.n ≤ s.iidx.val + 1 ∧ s.advance =
      { s with ipmar := trunc s.impl (s.ipmar + 1#128), iidx := 0, entry := .sequential s.shape.l }) := by
  unfold advance
  split
  · exact .inl ⟨‹_›, rfl⟩
  · exact .inr ⟨by omega, rfl⟩

/-- `Advance()` writes the sequencing state only. -/
theorem advance_eq :
    s.advance = { s with ipmar := s.advance.ipmar, iidx := s.advance.iidx, entry := s.advance.entry } := by
  rcases s.advance_cases with ⟨_, h⟩ | ⟨_, h⟩ <;> rw [h]

/-- The whole state after `TrapEntry(e, p)` (R320). -/
theorem trapEntry_eq (e : ExcId) (p : Nat) :
    s.trapEntry e p =
      { s with
        ipmar := trunc s.impl (s.ehaAt p), iidx := 0, entry := .transfer, opl := max s.opl p, xie := false,
        depend := (s.exceptionEntered p).depend,
        esave := LevelMap.put s.esave p ⟨s.opl, s.ipmar, s.iidx, s.impl.ceid.of e⟩ } := rfl

theorem esaveAt_trapEntry (e : ExcId) (p q : Nat) :
    (s.trapEntry e p).esaveAt q = if q = p then ⟨s.opl, s.ipmar, s.iidx, s.impl.ceid.of e⟩ else s.esaveAt q :=
  LevelMap.get_put ..

/-- The whole state after an interrupt of level p was taken (R331). -/
theorem interruptEntry_eq (p : Nat) :
    s.interruptEntry p =
      { s with
        ipmar := trunc s.impl (s.ihaAt p), iidx := 0, entry := .transfer, opl := p, xie := false,
        depend := (s.interruptEntered p).depend,
        isave := LevelMap.put s.isave p ⟨s.opl, s.ipmar, s.iidx⟩ } := rfl

theorem isaveAt_interruptEntry (p q : Nat) :
    (s.interruptEntry p).isaveAt q = if q = p then ⟨s.opl, s.ipmar, s.iidx⟩ else s.isaveAt q :=
  LevelMap.get_put ..

/-- The whole state after a return from an exception (R325). -/
theorem exceptionReturn_eq (p : Nat) :
    s.exceptionReturn p =
      { s with
        opl := (s.esaveAt p).opl, ipmar := trunc s.impl (s.esaveAt p).ipmar, iidx := (s.esaveAt p).iidx,
        entry := .transfer } := rfl

/-- The whole state after a return from an interrupt (R334). -/
theorem interruptReturn_eq (p : Nat) :
    s.interruptReturn p =
      { s with
        opl := (s.isaveAt p).opl, ipmar := trunc s.impl (s.isaveAt p).ipmar, iidx := (s.isaveAt p).iidx,
        entry := .transfer } := rfl

/-- Everything step 0 can do: nothing; draw a choice and take none; or take one of the pending interrupts. -/
theorem interruptTurn_cases :
    s.interruptTurn = (false, s) ∨ s.interruptTurn = (false, s.drawn) ∨
    ∃ k p, s.xie = true ∧ s.xpend[k]? = some p ∧
      s.interruptTurn = (true, (((s.drawn).setXpend (s.xpend.eraseIdx k)).decidedAt [.priv .xie]).interruptEntry p) := by
  unfold interruptTurn
  by_cases hx : s.xie = true
  · by_cases he : s.xpend.isEmpty = true
    · simp [he]
    · cases hc : s.xpend[Config.freeChoice s.free]? with
      | none => exact .inr (.inl (by simp [hx, he]))
      | some p => exact .inr (.inr ⟨Config.freeChoice s.free, p, hx, hc, by simp [hx, he]⟩)
  · simp [hx]

/-- No step 0 with reception disabled or nothing pending. -/
theorem interruptTurn_none (h : s.xie = false ∨ s.xpend = []) : s.interruptTurn = (false, s) := by
  unfold interruptTurn
  rcases h with h | h <;> simp [h]

/-- Everything steps 8 and 9 can do: the privilege exception, or the instruction's outcome. -/
theorem attempt_cases (priv : Nat) (w : Flow) (f : State → Effect) :
    (s.opl < priv ∧
      s.attempt priv w f =
        (s.decidedAt [.priv .opl]).trapEntry .insufficientPrivilege (s.impl.levels.insufficientAt s.opl)) ∨
    (priv ≤ s.opl ∧ s.attempt priv w f = s.conclude w (f s)) := by
  unfold attempt
  by_cases h : s.opl < priv
  · exact .inl ⟨h, by rw [if_pos h]; rfl⟩
  · exact .inr ⟨by omega, by rw [if_neg h]⟩

theorem attempt_allowed {priv : Nat} (w : Flow) (f : State → Effect) (h : priv ≤ s.opl) :
    s.attempt priv w f = s.conclude w (f s) := by
  unfold attempt; rw [if_neg (by omega)]

/-- Recording dependences writes nothing else. -/
theorem track_eq (w : Flow) (t : State) : s.track w t = t.setDepend (s.track w t).depend := by
  unfold track
  split <;> rfl

/-- An abandoned instruction leaves its free values drawn and the dependences of what it decided. -/
theorem abandon_eq (w : Flow) (t : State) : s.abandon w t = (s.setFree t.free).setDepend (s.abandon w t).depend := by
  unfold abandon
  split <;> rfl

/-- Everything the end of an instruction can do, by its outcome. -/
theorem conclude_cases (w : Flow) (e : Effect) :
    (e.outcome = .next ∧ s.conclude w e = (s.track w e.state).advance) ∨
    (∃ a, e.outcome = .transfer a ∧ s.conclude w e = (s.track w e.state).controlTransfer a) ∨
    (∃ x p, e.outcome = .exception x p ∧ s.conclude w e = (s.abandon w e.state).trapEntry x p) ∨
    (∃ p, e.outcome = .internalInterrupt p ∧ s.conclude w e = (s.track w e.state).advance.interruptEntry p) ∨
    (e.outcome = .done ∧ s.conclude w e = s.track w e.state) := by
  unfold conclude
  cases h : e.outcome with
  | next => exact .inl ⟨rfl, rfl⟩
  | transfer a => exact .inr (.inl ⟨a, rfl, rfl⟩)
  | exception x p => exact .inr (.inr (.inl ⟨x, p, rfl, rfl⟩))
  | internalInterrupt p => exact .inr (.inr (.inr (.inl ⟨p, rfl, rfl⟩)))
  | done => exact .inr (.inr (.inr (.inr ⟨rfl, rfl⟩)))

end State

/-! ### Carries -/

namespace State

/-- Everything R29 lets happen to one of the two other CRs. -/
theorem overwrittenCr_cases (s : State) (g : Fin 64) (k : Fin 128) :
    (k.val = g.val ∧ s.overwrittenCr g k = s) ∨
    (k.val ≠ g.val ∧ 64 ≤ k.val ∧ s.overwrittenCr g k = s.setCr k false) ∨
    (k.val ≠ g.val ∧ k.val < 64 ∧ s.overwrittenCr g k = (s.setCr k (Config.freeBit s.free)).drawn) := by
  unfold overwrittenCr
  by_cases h : k.val = g.val
  · exact .inl ⟨h, if_pos h⟩
  · by_cases h64 : 64 ≤ k.val
    · exact .inr (.inl ⟨h, h64, by rw [if_neg h, if_pos h64]⟩)
    · exact .inr (.inr ⟨h, by omega, by rw [if_neg h, if_neg h64]⟩)

end State

end Sys2Proof.Machine
end

