-- ==== Sys2Proof/Laws/Registers.lean ====
section
/-! SUPPORT. Registers: what a write leaves in every register, in halves and in whole. -/

namespace Sys2Proof.Machine

open Sys2Proof

/-! ### Halves -/

theorem halfOf_eq (w : Word) {n : Nat} (h : n < 2) : halfOf w n = w.extractLsb' (64 * n) 64 := by
  rcases n with _ | _ | n
  · rfl
  · rfl
  · omega

/-- A semi-register's number is the number of its register and of its half. -/
theorem semi_ext {i j : Fin 128} (h : fullOf i = fullOf j) (h2 : i.val % 2 = j.val % 2) : i = j := by
  have : i.val / 2 = j.val / 2 := congrArg Fin.val h
  exact Fin.ext (by omega)

@[simp] theorem fullOf_even (g : Fin 64) (h : 2 * g.val < 128) : fullOf ⟨2 * g.val, h⟩ = g := by
  apply Fin.ext; show 2 * g.val / 2 = g.val; omega

@[simp] theorem fullOf_odd (g : Fin 64) (h : 2 * g.val + 1 < 128) : fullOf ⟨2 * g.val + 1, h⟩ = g := by
  apply Fin.ext; show (2 * g.val + 1) / 2 = g.val; omega

namespace State

variable (s : State)

/-! ### One register written -/

theorem gpr_setGpr (g h : Fin 64) (v : Word) : (s.setGpr g v).gpr[h] = if h = g then v else s.gpr[h] := by
  simp only [setGpr, Fin.getElem_fin, Vector.getElem_set, Fin.ext_iff, eq_comm]

theorem rnr_setRnr (r q : Fin 64) (v : Word) : (s.setRnr r v).rnr[q] = if q = r then v else s.rnr[q] := by
  simp only [setRnr, Fin.getElem_fin, Vector.getElem_set, Fin.ext_iff, eq_comm]

theorem cr_setCr (i j : Fin 128) (b : Bool) : (s.setCr i b).cr[j] = if j = i then b else s.cr[j] := by
  simp only [setCr, Fin.getElem_fin, Vector.getElem_set, Fin.ext_iff, eq_comm]

theorem sgpr_setSgpr_same (i : Fin 128) (v : SemiWord) : (s.setSgpr i v).sgpr i = v := by
  simp only [sgpr, setSgpr, gpr_setGpr, if_true, halfOf_withHalf_same]

theorem sgpr_setSgpr_other {i j : Fin 128} (h : j ≠ i) (v : SemiWord) : (s.setSgpr i v).sgpr j = s.sgpr j := by
  simp only [sgpr, setSgpr, gpr_setGpr]
  by_cases hf : fullOf j = fullOf i
  · rw [if_pos hf, halfOf_withHalf_other]
    · simp only [hf]
    · have : j.val % 2 ≠ i.val % 2 := fun h2 => h (semi_ext hf h2)
      simp only [ne_eq, eq_iff_iff]; omega
  · rw [if_neg hf]

theorem gpr_setSgpr_other {i : Fin 128} {g : Fin 64} (h : g ≠ fullOf i) (v : SemiWord) :
    (s.setSgpr i v).gpr[g] = s.gpr[g] := by
  rw [setSgpr, gpr_setGpr, if_neg h]

theorem srnr_setSrnr_same (i : Fin 128) (v : SemiWord) : (s.setSrnr i v).srnr i = v := by
  simp only [srnr, setSrnr, rnr_setRnr, if_true, halfOf_withHalf_same]

theorem srnr_setSrnr_other {i j : Fin 128} (h : j ≠ i) (v : SemiWord) : (s.setSrnr i v).srnr j = s.srnr j := by
  simp only [srnr, setSrnr, rnr_setRnr]
  by_cases hf : fullOf j = fullOf i
  · rw [if_pos hf, halfOf_withHalf_other]
    · simp only [hf]
    · have : j.val % 2 ≠ i.val % 2 := fun h2 => h (semi_ext hf h2)
      simp only [ne_eq, eq_iff_iff]; omega
  · rw [if_neg hf]

theorem rnr_setSrnr_other {i : Fin 128} {r : Fin 64} (h : r ≠ fullOf i) (v : SemiWord) :
    (s.setSrnr i v).rnr[r] = s.rnr[r] := by
  rw [setSrnr, rnr_setRnr, if_neg h]

/-! ### writeReg -/

/-- What a register holds after it was written: the value, of which a semi-register keeps 64 bits. -/
theorem readReg_writeReg (r : Reg) (v : Word) :
    (s.writeReg r v).readReg r = if r.width = 128 then v else (v.setWidth 64).setWidth 128 := by
  cases r with
  | gpr g => simp [readReg, writeReg, Reg.width]
  | sgpr i => simp only [readReg, writeReg, sgpr_setSgpr_same, Reg.width]; rfl
  | rnr q => simp [readReg, writeReg, Reg.width]
  | srnr i => simp only [readReg, writeReg, srnr_setSrnr_same, Reg.width]; rfl

/-- A write of a register writes the register sets only. -/
theorem writeReg_eq (r : Reg) (v : Word) :
    s.writeReg r v = { s with gpr := (s.writeReg r v).gpr, rnr := (s.writeReg r v).rnr } := by
  cases r <;> rfl

/-- A write of a register writes that register only. -/
theorem onlyRegister_writeReg (r : Reg) (v : Word) : OnlyRegister r s (s.writeReg r v) := by
  refine ⟨fun g h => ?_, fun q h => ?_, fun i h h2 => ?_, fun i h h2 => ?_, fun i => ?_⟩
  · cases r with
    | gpr k => exact (s.gpr_setGpr k g v).trans (if_neg fun e => h (by rw [e]; rfl))
    | sgpr i => exact s.gpr_setSgpr_other (fun e => h (by rw [e]; rfl)) _
    | rnr k => rfl
    | srnr i => rfl
  · cases r with
    | rnr k => exact (s.rnr_setRnr k q v).trans (if_neg fun e => h (by rw [e]; rfl))
    | srnr i => exact s.rnr_setSrnr_other (fun e => h (by rw [e]; rfl)) _
    | gpr k => rfl
    | sgpr i => rfl
  · cases r with
    | gpr k => exact absurd rfl (h k)
    | sgpr k => exact s.sgpr_setSgpr_other (fun e => h2 (by rw [e])) _
    | rnr k => rfl
    | srnr k => rfl
  · cases r with
    | rnr k => exact absurd rfl (h k)
    | srnr k => exact s.srnr_setSrnr_other (fun e => h2 (by rw [e])) _
    | gpr k => rfl
    | sgpr k => rfl
  · cases r <;> rfl

/-- What an operand, an address or a condition depends on: the registers and IPMAR. -/
theorem value_congr {s t : State} (hg : t.gpr = s.gpr) (hr : t.rnr = s.rnr) (hc : t.cr = s.cr)
    (hi : t.ipmar = s.ipmar) (o : Operand) : t.value o = s.value o := by
  cases o with
  | reg r => cases r <;> simp only [value, readReg, sgpr, srnr, hg, hr]
  | imm v => rfl
  | carry i => simp only [value, hc]
  | ipmar => exact hi

theorem address_congr {s t : State} (hg : t.gpr = s.gpr) (hr : t.rnr = s.rnr) (hc : t.cr = s.cr)
    (hi : t.ipmar = s.ipmar) (a : Address) : t.address a = s.address a := by
  cases a <;> simp only [address, value_congr hg hr hc hi]

end State

end Sys2Proof.Machine
end

