-- ==== Sys2Proof/Laws/Composite.lean ====
section
/-! SUPPORT. Everything the actions of a composite instruction can write, and that they keep the invariant. -/

namespace Sys2Proof.Machine

open Sys2Proof

namespace State

/-- `t` differs from `s` at most in what a composite instruction's actions may write. -/
def Within (s t : State) : Prop :=
  t = { s with
    gpr := t.gpr, rnr := t.rnr, cr := t.cr, mem := t.mem, stale := t.stale, trace := t.trace, free := t.free
    depend := t.depend, ipmar := t.ipmar, iidx := t.iidx, entry := t.entry, opl := t.opl, xie := t.xie
    eha := t.eha, iha := t.iha, esave := t.esave, isave := t.isave, outbox := t.outbox }

theorem Within.refl (s : State) : Within s s := rfl

theorem Within.trans {s t u : State} (h : Within s t) (k : Within t u) : Within s u := by
  unfold Within at *
  rw [k, h]

theorem within_overwrittenCr (s : State) (g : Fin 64) (k : Fin 128) : Within s (s.overwrittenCr g k) := by
  rcases s.overwrittenCr_cases g k with ⟨_, h⟩ | ⟨_, _, h⟩ | ⟨_, _, h⟩ <;> rw [h] <;> rfl

theorem within_writeCarry (s : State) (d : CarryDest) (v : Word) (c : Bool) : Within s (s.writeCarry d v c) := by
  cases d with
  | gpr g =>
    exact Within.trans (t := (s.setGpr g ((BitVec.ofBool c ++ v).setWidth 128)).setCr ⟨g.val, by omega⟩
        ((BitVec.ofBool c ++ v).getLsbD 128)) rfl
      ((within_overwrittenCr _ _ _).trans (within_overwrittenCr _ _ _))
  | sgpr i => rfl

theorem within_writeReg (s : State) (r : Reg) (v : Word) : Within s (s.writeReg r v) := by
  cases r <;> rfl

theorem within_store (s : State) (a n v : Nat) : Within s (s.store a n v) := by
  rcases s.store_cases a n v with ⟨_, h⟩ | ⟨_, h⟩ <;> rw [h] <;> rfl

theorem within_memReadW (s : State) (wa : Word) : Within s (s.memReadW wa).2 := by
  rcases s.memReadW_cases wa with ⟨_, h⟩ | ⟨_, h⟩ <;> rw [h] <;> rfl

theorem within_memRead {s t : State} {oa v : Word} {size : UnitSize} (h : s.memRead oa size = some (v, t)) : Within s t := by
  simp only [memRead] at h
  split at h
  · split at h <;> cases h <;> rfl
  · cases h

theorem within_memWrite {s t : State} {oa v : Word} {size : UnitSize} (h : s.memWrite oa size v = some t) : Within s t := by
  simp only [memWrite] at h
  split at h
  · cases h; exact within_store _ _ _ _
  · cases h

theorem within_setDepend {s t : State} (d : Dependences) (h : Within s t) : Within s (t.setDepend d) := h.trans rfl

theorem within_writePrivField (s : State) (f : PrivField) (v : Word) : Within s (writePrivField s f v) := by
  cases f with
  | eha | iha | xie => exact rfl
  | esave p f =>
    cases f with
    | resume f =>
      cases f with
      | opl =>
        simp only [writePrivField, writeExcSave, afterSavedLevel]
        split <;> exact rfl
      | ipmar | iidx => exact rfl
    | ceid => exact rfl
  | isave p f =>
    cases f with
    | opl =>
      simp only [writePrivField, writeResume, afterSavedLevel]
      split <;> exact rfl
    | ipmar | iidx => exact rfl
  | opl =>
    simp only [writePrivField]
    split <;> exact rfl

end State

/-- One action writes what `State.Within` lists only. -/
theorem within_runAction (a : Action) (g : List Nat) (r : Running) : State.Within r.state (runAction a g r).state := by
  cases a with
  | load size addr =>
    simp only [runAction]
    split
    · exact State.within_memRead ‹_›
    · exact .refl _
  | loadWord addr => exact State.within_memReadW _ _
  | store size addr value =>
    simp only [runAction]
    split
    · exact State.within_setDepend _ (State.within_memWrite ‹_›)
    · exact .refl _
  | storeWord addr value => exact State.within_setDepend _ (State.within_store _ _ _ _)
  | write dst value => exact State.within_setDepend _ (State.within_writeReg _ _ _)
  | writeCarry dst value carry =>
    exact State.within_setDepend _ (State.within_setDepend _ (State.within_setDepend _ (State.within_writeCarry _ _ _ _)))
  | writePriv f value => exact State.within_setDepend _ (State.within_writePrivField _ _ _)
  | compute | barrier | transfer | internalInterrupt | unalignedSelect | readPriv | exceptionReturn | interruptReturn
  | enforceCoherence | sendInterrupt => exact rfl

/-- An action left out writes dependences only. -/
theorem skipAction_state (a : Action) (g : List Nat) (r : Running) :
    (skipAction a g r).state = r.state.setDepend (skipAction a g r).state.depend := by
  simp only [skipAction]
  split <;> split <;> rfl

theorem within_runGuarded (a : GuardedAction) (r : Running) : State.Within r.state (runGuarded a r).state := by
  unfold runGuarded
  split
  · split
    · exact within_runAction _ _ _
    · rw [skipAction_state]; exact rfl
  · exact within_runAction _ _ _

/-- So do all of them. -/
theorem within_runActions (l : List GuardedAction) (r : Running) : State.Within r.state (runActions l r).state := by
  induction l generalizing r with
  | nil => exact .refl _
  | cons a l ih =>
    unfold runActions
    split
    · exact .refl _
    · exact (within_runGuarded a r).trans (ih _)

/-- A composite instruction leaves the implementation, the backed status, the pending interrupts and the package's shape alone. -/
theorem within_compositeEffect (o : Composite) (s : State) : State.Within s (compositeEffect o s).state :=
  State.within_setDepend _ (within_runActions _ _)

/-! ### The invariant, action by action -/

/-- What the invariant looks at: it holds again where none of that was written. -/
theorem inv_congr {s t : State} (hs : Inv s) (h : t =
    { t with impl := s.impl, mem := s.mem, opl := s.opl, esave := s.esave, isave := s.isave, xpend := s.xpend, ipmar := s.ipmar }) :
    Inv t := by
  rw [h]; exact hs

theorem inv_writeReg {s : State} (hs : Inv s) (r : Reg) (v : Word) : Inv (s.writeReg r v) :=
  inv_congr hs (by cases r <;> rfl)

theorem inv_writeCarry {s : State} (hs : Inv s) (d : CarryDest) (v : Word) (c : Bool) : Inv (s.writeCarry d v c) := by
  have key : ∀ {s : State} (_ : Inv s) (g : Fin 64) (k : Fin 128), Inv (s.overwrittenCr g k) := by
    intro s hs g k
    rcases s.overwrittenCr_cases g k with ⟨_, h⟩ | ⟨_, _, h⟩ | ⟨_, _, h⟩ <;> rw [h] <;> exact inv_congr hs rfl
  cases d with
  | gpr g =>
    exact key (key (s := (s.setGpr g ((BitVec.ofBool c ++ v).setWidth 128)).setCr ⟨g.val, by omega⟩
      ((BitVec.ofBool c ++ v).getLsbD 128)) (inv_congr hs rfl) _ _) _ _
  | sgpr i => exact inv_congr hs rfl

theorem inv_store {s : State} (hs : Inv s) {a n : Nat} (v : Nat) (ha : a + n ≤ Memory.locations) : Inv (s.store a n v) := by
  unfold State.store
  split
  · have hm : Memory.wf (s.put a n v).mem = true := State.wf_put v ha hs.2.1
    have he : (s.put a n v).note (.write (a / 16)) =
        { s with
          mem := (s.put a n v).mem, stale := (s.put a n v).stale
          trace := ((s.put a n v).note (.write (a / 16))).trace } := by
      unfold State.put
      split <;> rfl
    rw [he]
    exact ⟨hs.1, hm, hs.2.2⟩
  · exact hs

theorem inv_memWriteW {s : State} (hs : Inv s) (wa v : Word) : Inv (s.memWriteW wa v) := by
  refine inv_store hs _ ?_
  have := (trunc s.impl wa).isLt
  simp only [State.wordLocation, Memory.locations]
  omega

theorem inv_memWrite {s t : State} (hs : Inv s) {oa v : Word} {size : UnitSize} (h : s.memWrite oa size v = some t) :
    Inv t := by
  simp only [State.memWrite] at h
  split at h
  · cases h
    refine inv_store hs _ ?_
    have := (trunc s.impl oa).isLt
    have : size.octets ≤ 16 := by cases size <;> decide
    simp only [State.octetLocation, Memory.locations]
    omega
  · cases h

theorem inv_memRead {s t : State} (hs : Inv s) {oa v : Word} {size : UnitSize} (h : s.memRead oa size = some (v, t)) :
    Inv t := by
  simp only [State.memRead] at h
  split at h
  · split at h <;> cases h <;> exact inv_congr hs rfl
  · cases h

theorem savedLevel_le (s : State) (v : Word) : savedLevel s v ≤ s.impl.plMax := by
  unfold savedLevel
  split
  · assumption
  · exact Nat.le_of_lt_succ (Nat.mod_lt _ (Nat.succ_pos _))

theorem inv_setEsave {s : State} (hs : Inv s) (p : Nat) {r : ExcSave} (h : r.opl ≤ s.impl.plMax) : Inv (s.setEsave p r) := by
  obtain ⟨h1, h2, h3, ⟨h4, h5⟩, h6⟩ := hs
  refine ⟨h1, h2, h3, ⟨fun q => ?_, h5⟩, h6⟩
  rw [State.esaveAt_setEsave]
  split
  · exact h
  · exact h4 q

theorem inv_setIsave {s : State} (hs : Inv s) (p : Nat) {r : ResumePoint} (h : r.opl ≤ s.impl.plMax) : Inv (s.setIsave p r) := by
  obtain ⟨h1, h2, h3, ⟨h4, h5⟩, h6⟩ := hs
  refine ⟨h1, h2, h3, ⟨h4, fun q => ?_⟩, h6⟩
  rw [State.isaveAt_setIsave]
  split
  · exact h
  · exact h5 q

theorem inv_afterSavedLevel {s : State} (hs : Inv s) (v : Word) : Inv (afterSavedLevel s v) := by
  unfold afterSavedLevel
  split
  · exact hs
  · exact inv_congr hs rfl

theorem impl_afterSavedLevel (s : State) (v : Word) : (afterSavedLevel s v).impl = s.impl := by
  unfold afterSavedLevel
  split <;> rfl

theorem inv_writePrivField {s : State} (hs : Inv s) (f : PrivField) (v : Word) : Inv (writePrivField s f v) := by
  have he := hs.2.2.2.1.1
  have hi := hs.2.2.2.1.2
  cases f with
  | eha | iha | xie => exact inv_congr hs rfl
  | esave p f =>
    rcases f with (_ | _ | _) | _
    · exact inv_setEsave (inv_afterSavedLevel hs v) p (by rw [impl_afterSavedLevel]; exact savedLevel_le s v)
    · exact inv_setEsave hs p (he p)
    · exact inv_setEsave hs p (he p)
    · exact inv_setEsave hs p (he p)
  | isave p f =>
    rcases f with _ | _ | _
    · exact inv_setIsave (inv_afterSavedLevel hs v) p (by rw [impl_afterSavedLevel]; exact savedLevel_le s v)
    · exact inv_setIsave hs p (hi p)
    · exact inv_setIsave hs p (hi p)
  | opl =>
    obtain ⟨h1, h2, h3, h4, h5, h6⟩ := hs
    simp only [writePrivField]
    split
    · exact ⟨h1, h2, by simp only [State.setOpl]; omega, h4, h5, h6⟩
    · have : Config.freeChoice s.free % (s.opl + 1) < s.opl + 1 := Nat.mod_lt _ (Nat.succ_pos _)
      exact ⟨h1, h2, by simp only [State.setOpl, State.drawn]; omega, h4, h5, h6⟩

theorem trunc_lt (c : Impl) (a : Word) : (trunc c a).toNat < 2 ^ c.nMem := by
  unfold trunc
  rw [BitVec.toNat_ofNat]
  exact Nat.lt_of_le_of_lt (Nat.mod_le _ _) (Nat.mod_lt _ (Nat.two_pow_pos _))

theorem inv_exceptionReturn {s : State} (hs : Inv s) (p : Nat) : Inv (s.exceptionReturn p) := by
  obtain ⟨h1, h2, _, h4, h5, _⟩ := hs
  exact ⟨h1, h2, h4.1 p, h4, h5, trunc_lt _ _⟩

theorem inv_interruptReturn {s : State} (hs : Inv s) (p : Nat) : Inv (s.interruptReturn p) := by
  obtain ⟨h1, h2, _, h4, h5, _⟩ := hs
  exact ⟨h1, h2, h4.2 p, h4, h5, trunc_lt _ _⟩

/-- No action breaks the invariant. -/
theorem inv_runAction (a : Action) (g : List Nat) {r : Running} (h : Inv r.state) : Inv (runAction a g r).state := by
  cases a with
  | load size addr =>
    simp only [runAction]
    split
    · exact inv_memRead h ‹_›
    · exact h
  | loadWord addr =>
    rcases r.state.memReadW_cases (r.arg addr).word with ⟨_, e⟩ | ⟨_, e⟩ <;> simp only [runAction, e] <;>
      exact inv_congr h rfl
  | store size addr value =>
    simp only [runAction]
    split
    · exact inv_congr (inv_memWrite h ‹_›) rfl
    · exact h
  | storeWord addr value => exact inv_congr (inv_memWriteW h _ _) rfl
  | write dst value => exact inv_congr (inv_writeReg h _ _) rfl
  | writeCarry dst value carry => exact inv_congr (inv_writeCarry h _ _ _) rfl
  | writePriv f value => exact inv_congr (inv_writePrivField h _ _) rfl
  | exceptionReturn p => exact inv_congr (inv_exceptionReturn h p) rfl
  | interruptReturn p => exact inv_congr (inv_interruptReturn h p) rfl
  | compute | barrier | transfer | internalInterrupt | unalignedSelect | readPriv | enforceCoherence | sendInterrupt =>
    exact inv_congr h rfl

/-- A composite instruction keeps the invariant. -/
theorem inv_compositeEffect (o : Composite) {s : State} (hs : Inv s) : Inv (compositeEffect o s).state := by
  have key : ∀ (l : List GuardedAction) (r : Running), Inv r.state → Inv (runActions l r).state := by
    intro l
    induction l with
    | nil => exact fun _ h => h
    | cons a l ih =>
      intro r h
      unfold runActions
      split
      · exact h
      · refine ih _ ?_
        unfold runGuarded
        split
        · split
          · exact inv_runAction _ _ h
          · rw [skipAction_state]; exact inv_congr h rfl
        · exact inv_runAction _ _ h
  exact inv_congr (key o.actions _ (by exact hs)) rfl

end Sys2Proof.Machine
end

