-- ==== Sys2Proof/Laws/Decode.lean ====
section
/-! SUPPORT. What the decoder answers, row by row, and the bit-field laws a proof about an encoding needs. -/

namespace Sys2Proof

/-! ### Bit fields of appended fields -/

theorem extract_above {a b : Nat} (x : BitVec a) (y : BitVec b) (lo len : Nat) (h : b ≤ lo) :
    (x ++ y).extractLsb' lo len = x.extractLsb' (lo - b) len := BitVec.extractLsb'_append_eq_of_le h

theorem extract_below {a b : Nat} (x : BitVec a) (y : BitVec b) (lo len : Nat) (h : lo + len ≤ b) :
    (x ++ y).extractLsb' lo len = y.extractLsb' lo len := BitVec.extractLsb'_append_eq_of_add_le h

theorem extract_asWord {a : Nat} (h : a = 128) (x : BitVec a) (lo len : Nat) :
    (asWord h x).extractLsb' lo len = x.extractLsb' lo len := by subst h; rfl

theorem extract_whole {a : Nat} (x : BitVec a) : x.extractLsb' 0 a = x := by simp

/-- Two neighbouring fields put together are one field. -/
theorem append_fields (w : Word) (hi lo n m : Nat) (h : hi = lo + m) :
    w.extractLsb' hi n ++ w.extractLsb' lo m = w.extractLsb' lo (n + m) :=
  BitVec.extractLsb'_append_extractLsb'_eq_extractLsb' h

/-! ### Rows -/

theorem decodePackage_row0 (w : Word) (h : formatField w = 0) :
    decodePackage w = .ok (.pkg0 (w.extractLsb' 8 10) (w.extractLsb' 18 30) (w.extractLsb' 48 30) (w.extractLsb' 78 30) (w.extractLsb' 108 20)) := by
  rw [decodePackage, h]; rfl

theorem decodePackage_row1 (w : Word) (h : formatField w = 1) :
    decodePackage w = .ok (.pkg1 (w.extractLsb' 8 10) (w.extractLsb' 18 30) (w.extractLsb' 48 30) (w.extractLsb' 78 30) (w.extractLsb' 108 20)) := by
  rw [decodePackage, h]; rfl

theorem decodePackage_row2 (w : Word) (h : formatField w = 2) :
    decodePackage w = .ok (.pkg2 (w.extractLsb' 8 10) (w.extractLsb' 18 30) (w.extractLsb' 48 30) (w.extractLsb' 78 40) (w.extractLsb' 118 10)) := by
  rw [decodePackage, h]; rfl

theorem decodePackage_row3 (w : Word) (h : formatField w = 3) :
    decodePackage w = .ok (.pkg3 (w.extractLsb' 8 10) (w.extractLsb' 18 30) (w.extractLsb' 48 30) (w.extractLsb' 78 40) (w.extractLsb' 118 10)) := by
  rw [decodePackage, h]; rfl

theorem decodePackage_row4 (w : Word) (h : formatField w = 4) :
    decodePackage w = .ok (.pkg4 (w.extractLsb' 8 10) (w.extractLsb' 18 30) (w.extractLsb' 48 30) (w.extractLsb' 78 50)) := by
  rw [decodePackage, h]; rfl

theorem decodePackage_row5 (w : Word) (h : formatField w = 5) :
    decodePackage w = .ok (.pkg5 (w.extractLsb' 8 10) (w.extractLsb' 18 30) (w.extractLsb' 48 30) (w.extractLsb' 78 50)) := by
  rw [decodePackage, h]; rfl

theorem decodePackage_row6 (w : Word) (h : formatField w = 6) :
    decodePackage w = .ok (.pkg6 (w.extractLsb' 8 10) (w.extractLsb' 18 30) (w.extractLsb' 48 40) (w.extractLsb' 88 30) (w.extractLsb' 118 10)) := by
  rw [decodePackage, h]; rfl

theorem decodePackage_row7 (w : Word) (h : formatField w = 7) :
    decodePackage w = .ok (.pkg7 (w.extractLsb' 8 10) (w.extractLsb' 18 30) (w.extractLsb' 48 40) (w.extractLsb' 88 30) (w.extractLsb' 118 10)) := by
  rw [decodePackage, h]; rfl

theorem decodePackage_row8 (w : Word) (h : formatField w = 8) :
    decodePackage w = .ok (.pkg8 (w.extractLsb' 8 10) (w.extractLsb' 18 30) (w.extractLsb' 48 40) (w.extractLsb' 88 40)) := by
  rw [decodePackage, h]; rfl

theorem decodePackage_row9 (w : Word) (h : formatField w = 9) :
    decodePackage w = .ok (.pkg9 (w.extractLsb' 8 10) (w.extractLsb' 18 30) (w.extractLsb' 48 40) (w.extractLsb' 88 40)) := by
  rw [decodePackage, h]; rfl

theorem decodePackage_row10 (w : Word) (h : formatField w = 10) :
    decodePackage w = .ok (.pkg10 (w.extractLsb' 8 10) (w.extractLsb' 18 30) (w.extractLsb' 48 50) (w.extractLsb' 98 30)) := by
  rw [decodePackage, h]; rfl

theorem decodePackage_row11 (w : Word) (h : formatField w = 11) :
    decodePackage w = .ok (.pkg11 (w.extractLsb' 8 10) (w.extractLsb' 18 30) (w.extractLsb' 48 50) (w.extractLsb' 98 30)) := by
  rw [decodePackage, h]; rfl

theorem decodePackage_row12 (w : Word) (h : formatField w = 12) :
    decodePackage w = .ok (.pkg12 (w.extractLsb' 8 10) (w.extractLsb' 18 30) (w.extractLsb' 48 60) (w.extractLsb' 108 20)) := by
  rw [decodePackage, h]; rfl

theorem decodePackage_row13 (w : Word) (h : formatField w = 13) :
    decodePackage w = .ok (.pkg13 (w.extractLsb' 8 10) (w.extractLsb' 18 30) (w.extractLsb' 48 60) (w.extractLsb' 108 20)) := by
  rw [decodePackage, h]; rfl

theorem decodePackage_row14 (w : Word) (h : formatField w = 14) :
    decodePackage w = .ok (.pkg14 (w.extractLsb' 8 10) (w.extractLsb' 18 40) (w.extractLsb' 58 30) (w.extractLsb' 88 30) (w.extractLsb' 118 10)) := by
  rw [decodePackage, h]; rfl

theorem decodePackage_row15 (w : Word) (h : formatField w = 15) :
    decodePackage w = .ok (.pkg15 (w.extractLsb' 8 10) (w.extractLsb' 18 40) (w.extractLsb' 58 30) (w.extractLsb' 88 30) (w.extractLsb' 118 10)) := by
  rw [decodePackage, h]; rfl

theorem decodePackage_row16 (w : Word) (h : formatField w = 16) :
    decodePackage w = .ok (.pkg16 (w.extractLsb' 8 10) (w.extractLsb' 18 40) (w.extractLsb' 58 30) (w.extractLsb' 88 40)) := by
  rw [decodePackage, h]; rfl

theorem decodePackage_row17 (w : Word) (h : formatField w = 17) :
    decodePackage w = .ok (.pkg17 (w.extractLsb' 8 10) (w.extractLsb' 18 40) (w.extractLsb' 58 30) (w.extractLsb' 88 40)) := by
  rw [decodePackage, h]; rfl

theorem decodePackage_row18 (w : Word) (h : formatField w = 18) :
    decodePackage w = .ok (.pkg18 (w.extractLsb' 8 10) (w.extractLsb' 18 40) (w.extractLsb' 58 40) (w.extractLsb' 98 30)) := by
  rw [decodePackage, h]; rfl

theorem decodePackage_row19 (w : Word) (h : formatField w = 19) :
    decodePackage w = .ok (.pkg19 (w.extractLsb' 8 10) (w.extractLsb' 18 40) (w.extractLsb' 58 40) (w.extractLsb' 98 30)) := by
  rw [decodePackage, h]; rfl

theorem decodePackage_row20 (w : Word) (h : formatField w = 20) :
    decodePackage w = .ok (.pkg20 (w.extractLsb' 8 10) (w.extractLsb' 18 40) (w.extractLsb' 58 50) (w.extractLsb' 108 20)) := by
  rw [decodePackage, h]; rfl

theorem decodePackage_row21 (w : Word) (h : formatField w = 21) :
    decodePackage w = .ok (.pkg21 (w.extractLsb' 8 10) (w.extractLsb' 18 40) (w.extractLsb' 58 50) (w.extractLsb' 108 20)) := by
  rw [decodePackage, h]; rfl

theorem decodePackage_row22 (w : Word) (h : formatField w = 22) :
    decodePackage w = .ok (.pkg22 (w.extractLsb' 8 10) (w.extractLsb' 18 40) (w.extractLsb' 58 60) (w.extractLsb' 118 10)) := by
  rw [decodePackage, h]; rfl

theorem decodePackage_row23 (w : Word) (h : formatField w = 23) :
    decodePackage w = .ok (.pkg23 (w.extractLsb' 8 10) (w.extractLsb' 18 40) (w.extractLsb' 58 60) (w.extractLsb' 118 10)) := by
  rw [decodePackage, h]; rfl

theorem decodePackage_row24 (w : Word) (h : formatField w = 24) :
    decodePackage w = .ok (.pkg24 (w.extractLsb' 8 10) (w.extractLsb' 18 50) (w.extractLsb' 68 30) (w.extractLsb' 98 30)) := by
  rw [decodePackage, h]; rfl

theorem decodePackage_row25 (w : Word) (h : formatField w = 25) :
    decodePackage w = .ok (.pkg25 (w.extractLsb' 8 10) (w.extractLsb' 18 50) (w.extractLsb' 68 30) (w.extractLsb' 98 30)) := by
  rw [decodePackage, h]; rfl

theorem decodePackage_row26 (w : Word) (h : formatField w = 26) :
    decodePackage w = .ok (.pkg26 (w.extractLsb' 8 10) (w.extractLsb' 18 50) (w.extractLsb' 68 40) (w.extractLsb' 108 20)) := by
  rw [decodePackage, h]; rfl

theorem decodePackage_row27 (w : Word) (h : formatField w = 27) :
    decodePackage w = .ok (.pkg27 (w.extractLsb' 8 10) (w.extractLsb' 18 50) (w.extractLsb' 68 40) (w.extractLsb' 108 20)) := by
  rw [decodePackage, h]; rfl

theorem decodePackage_row28 (w : Word) (h : formatField w = 28) :
    decodePackage w = .ok (.pkg28 (w.extractLsb' 8 10) (w.extractLsb' 18 50) (w.extractLsb' 68 50) (w.extractLsb' 118 10)) := by
  rw [decodePackage, h]; rfl

theorem decodePackage_row29 (w : Word) (h : formatField w = 29) :
    decodePackage w = .ok (.pkg29 (w.extractLsb' 8 10) (w.extractLsb' 18 50) (w.extractLsb' 68 50) (w.extractLsb' 118 10)) := by
  rw [decodePackage, h]; rfl

theorem decodePackage_row30 (w : Word) (h : formatField w = 30) :
    decodePackage w = .ok (.pkg30 (w.extractLsb' 8 10) (w.extractLsb' 18 50) (w.extractLsb' 68 60)) := by
  rw [decodePackage, h]; rfl

theorem decodePackage_row31 (w : Word) (h : formatField w = 31) :
    decodePackage w = .ok (.pkg31 (w.extractLsb' 8 10) (w.extractLsb' 18 60) (w.extractLsb' 78 30) (w.extractLsb' 108 20)) := by
  rw [decodePackage, h]; rfl

theorem decodePackage_row32 (w : Word) (h : formatField w = 32) :
    decodePackage w = .ok (.pkg32 (w.extractLsb' 8 10) (w.extractLsb' 18 60) (w.extractLsb' 78 30) (w.extractLsb' 108 20)) := by
  rw [decodePackage, h]; rfl

theorem decodePackage_row33 (w : Word) (h : formatField w = 33) :
    decodePackage w = .ok (.pkg33 (w.extractLsb' 8 10) (w.extractLsb' 18 60) (w.extractLsb' 78 40) (w.extractLsb' 118 10)) := by
  rw [decodePackage, h]; rfl

theorem decodePackage_row34 (w : Word) (h : formatField w = 34) :
    decodePackage w = .ok (.pkg34 (w.extractLsb' 8 10) (w.extractLsb' 18 60) (w.extractLsb' 78 40) (w.extractLsb' 118 10)) := by
  rw [decodePackage, h]; rfl

theorem decodePackage_row35 (w : Word) (h : formatField w = 35) :
    decodePackage w = .ok (.pkg35 (w.extractLsb' 8 10) (w.extractLsb' 18 60) (w.extractLsb' 78 50)) := by
  rw [decodePackage, h]; rfl

theorem decodePackage_row36 (w : Word) (h : formatField w = 36) :
    decodePackage w = .ok (.pkg36 (w.extractLsb' 8 10) (w.extractLsb' 18 60) (w.extractLsb' 78 50)) := by
  rw [decodePackage, h]; rfl

theorem decodePackage_row37 (w : Word) (h : formatField w = 37) :
    decodePackage w = .ok (.pkg37 (w.extractLsb' 8 20) (w.extractLsb' 28 30) (w.extractLsb' 58 30) (w.extractLsb' 88 30) (w.extractLsb' 118 10)) := by
  rw [decodePackage, h]; rfl

theorem decodePackage_row38 (w : Word) (h : formatField w = 38) :
    decodePackage w = .ok (.pkg38 (w.extractLsb' 8 20) (w.extractLsb' 28 30) (w.extractLsb' 58 30) (w.extractLsb' 88 30) (w.extractLsb' 118 10)) := by
  rw [decodePackage, h]; rfl

theorem decodePackage_row39 (w : Word) (h : formatField w = 39) :
    decodePackage w = .ok (.pkg39 (w.extractLsb' 8 20) (w.extractLsb' 28 30) (w.extractLsb' 58 30) (w.extractLsb' 88 40)) := by
  rw [decodePackage, h]; rfl

theorem decodePackage_row40 (w : Word) (h : formatField w = 40) :
    decodePackage w = .ok (.pkg40 (w.extractLsb' 8 20) (w.extractLsb' 28 30) (w.extractLsb' 58 30) (w.extractLsb' 88 40)) := by
  rw [decodePackage, h]; rfl

theorem decodePackage_row41 (w : Word) (h : formatField w = 41) :
    decodePackage w = .ok (.pkg41 (w.extractLsb' 8 20) (w.extractLsb' 28 30) (w.extractLsb' 58 40) (w.extractLsb' 98 30)) := by
  rw [decodePackage, h]; rfl

theorem decodePackage_row42 (w : Word) (h : formatField w = 42) :
    decodePackage w = .ok (.pkg42 (w.extractLsb' 8 20) (w.extractLsb' 28 30) (w.extractLsb' 58 40) (w.extractLsb' 98 30)) := by
  rw [decodePackage, h]; rfl

theorem decodePackage_row43 (w : Word) (h : formatField w = 43) :
    decodePackage w = .ok (.pkg43 (w.extractLsb' 8 20) (w.extractLsb' 28 30) (w.extractLsb' 58 50) (w.extractLsb' 108 20)) := by
  rw [decodePackage, h]; rfl

theorem decodePackage_row44 (w : Word) (h : formatField w = 44) :
    decodePackage w = .ok (.pkg44 (w.extractLsb' 8 20) (w.extractLsb' 28 30) (w.extractLsb' 58 50) (w.extractLsb' 108 20)) := by
  rw [decodePackage, h]; rfl

theorem decodePackage_row45 (w : Word) (h : formatField w = 45) :
    decodePackage w = .ok (.pkg45 (w.extractLsb' 8 20) (w.extractLsb' 28 30) (w.extractLsb' 58 60) (w.extractLsb' 118 10)) := by
  rw [decodePackage, h]; rfl

theorem decodePackage_row46 (w : Word) (h : formatField w = 46) :
    decodePackage w = .ok (.pkg46 (w.extractLsb' 8 20) (w.extractLsb' 28 30) (w.extractLsb' 58 60) (w.extractLsb' 118 10)) := by
  rw [decodePackage, h]; rfl

theorem decodePackage_row47 (w : Word) (h : formatField w = 47) :
    decodePackage w = .ok (.pkg47 (w.extractLsb' 8 20) (w.extractLsb' 28 40) (w.extractLsb' 68 30) (w.extractLsb' 98 30)) := by
  rw [decodePackage, h]; rfl

theorem decodePackage_row48 (w : Word) (h : formatField w = 48) :
    decodePackage w = .ok (.pkg48 (w.extractLsb' 8 20) (w.extractLsb' 28 40) (w.extractLsb' 68 30) (w.extractLsb' 98 30)) := by
  rw [decodePackage, h]; rfl

theorem decodePackage_row49 (w : Word) (h : formatField w = 49) :
    decodePackage w = .ok (.pkg49 (w.extractLsb' 8 20) (w.extractLsb' 28 40) (w.extractLsb' 68 40) (w.extractLsb' 108 20)) := by
  rw [decodePackage, h]; rfl

theorem decodePackage_row50 (w : Word) (h : formatField w = 50) :
    decodePackage w = .ok (.pkg50 (w.extractLsb' 8 20) (w.extractLsb' 28 40) (w.extractLsb' 68 40) (w.extractLsb' 108 20)) := by
  rw [decodePackage, h]; rfl

theorem decodePackage_row51 (w : Word) (h : formatField w = 51) :
    decodePackage w = .ok (.pkg51 (w.extractLsb' 8 20) (w.extractLsb' 28 40) (w.extractLsb' 68 50) (w.extractLsb' 118 10)) := by
  rw [decodePackage, h]; rfl

theorem decodePackage_row52 (w : Word) (h : formatField w = 52) :
    decodePackage w = .ok (.pkg52 (w.extractLsb' 8 20) (w.extractLsb' 28 40) (w.extractLsb' 68 50) (w.extractLsb' 118 10)) := by
  rw [decodePackage, h]; rfl

theorem decodePackage_row53 (w : Word) (h : formatField w = 53) :
    decodePackage w = .ok (.pkg53 (w.extractLsb' 8 20) (w.extractLsb' 28 40) (w.extractLsb' 68 60)) := by
  rw [decodePackage, h]; rfl

theorem decodePackage_row54 (w : Word) (h : formatField w = 54) :
    decodePackage w = .ok (.pkg54 (w.extractLsb' 8 20) (w.extractLsb' 28 50) (w.extractLsb' 78 30) (w.extractLsb' 108 20)) := by
  rw [decodePackage, h]; rfl

theorem decodePackage_row55 (w : Word) (h : formatField w = 55) :
    decodePackage w = .ok (.pkg55 (w.extractLsb' 8 20) (w.extractLsb' 28 50) (w.extractLsb' 78 30) (w.extractLsb' 108 20)) := by
  rw [decodePackage, h]; rfl

theorem decodePackage_row56 (w : Word) (h : formatField w = 56) :
    decodePackage w = .ok (.pkg56 (w.extractLsb' 8 20) (w.extractLsb' 28 50) (w.extractLsb' 78 40) (w.extractLsb' 118 10)) := by
  rw [decodePackage, h]; rfl

theorem decodePackage_row57 (w : Word) (h : formatField w = 57) :
    decodePackage w = .ok (.pkg57 (w.extractLsb' 8 20) (w.extractLsb' 28 50) (w.extractLsb' 78 40) (w.extractLsb' 118 10)) := by
  rw [decodePackage, h]; rfl

theorem decodePackage_row58 (w : Word) (h : formatField w = 58) :
    decodePackage w = .ok (.pkg58 (w.extractLsb' 8 20) (w.extractLsb' 28 50) (w.extractLsb' 78 50)) := by
  rw [decodePackage, h]; rfl

theorem decodePackage_row59 (w : Word) (h : formatField w = 59) :
    decodePackage w = .ok (.pkg59 (w.extractLsb' 8 20) (w.extractLsb' 28 50) (w.extractLsb' 78 50)) := by
  rw [decodePackage, h]; rfl

theorem decodePackage_row60 (w : Word) (h : formatField w = 60) :
    decodePackage w = .ok (.pkg60 (w.extractLsb' 8 20) (w.extractLsb' 28 60) (w.extractLsb' 88 30) (w.extractLsb' 118 10)) := by
  rw [decodePackage, h]; rfl

theorem decodePackage_row61 (w : Word) (h : formatField w = 61) :
    decodePackage w = .ok (.pkg61 (w.extractLsb' 8 20) (w.extractLsb' 28 60) (w.extractLsb' 88 30) (w.extractLsb' 118 10)) := by
  rw [decodePackage, h]; rfl

theorem decodePackage_row62 (w : Word) (h : formatField w = 62) :
    decodePackage w = .ok (.pkg62 (w.extractLsb' 8 20) (w.extractLsb' 28 60) (w.extractLsb' 88 40)) := by
  rw [decodePackage, h]; rfl

theorem decodePackage_row63 (w : Word) (h : formatField w = 63) :
    decodePackage w = .ok (.pkg63 (w.extractLsb' 8 20) (w.extractLsb' 28 60) (w.extractLsb' 88 40)) := by
  rw [decodePackage, h]; rfl

theorem decodePackage_row64 (w : Word) (h : formatField w = 64) :
    decodePackage w = .ok (.pkg64 (w.extractLsb' 8 30) (w.extractLsb' 38 30) (w.extractLsb' 68 30) (w.extractLsb' 98 30)) := by
  rw [decodePackage, h]; rfl

theorem decodePackage_row65 (w : Word) (h : formatField w = 65) :
    decodePackage w = .ok (.pkg65 (w.extractLsb' 8 30) (w.extractLsb' 38 30) (w.extractLsb' 68 30) (w.extractLsb' 98 30)) := by
  rw [decodePackage, h]; rfl

theorem decodePackage_row66 (w : Word) (h : formatField w = 66) :
    decodePackage w = .ok (.pkg66 (w.extractLsb' 8 30) (w.extractLsb' 38 30) (w.extractLsb' 68 30) (w.extractLsb' 98 30)) := by
  rw [decodePackage, h]; rfl

theorem decodePackage_row67 (w : Word) (h : formatField w = 67) :
    decodePackage w = .ok (.pkg67 (w.extractLsb' 8 30) (w.extractLsb' 38 30) (w.extractLsb' 68 30) (w.extractLsb' 98 30)) := by
  rw [decodePackage, h]; rfl

theorem decodePackage_row68 (w : Word) (h : formatField w = 68) :
    decodePackage w = .ok (.pkg68 (w.extractLsb' 8 30) (w.extractLsb' 38 30) (w.extractLsb' 68 40) (w.extractLsb' 108 20)) := by
  rw [decodePackage, h]; rfl

theorem decodePackage_row69 (w : Word) (h : formatField w = 69) :
    decodePackage w = .ok (.pkg69 (w.extractLsb' 8 30) (w.extractLsb' 38 30) (w.extractLsb' 68 40) (w.extractLsb' 108 20)) := by
  rw [decodePackage, h]; rfl

theorem decodePackage_row70 (w : Word) (h : formatField w = 70) :
    decodePackage w = .ok (.pkg70 (w.extractLsb' 8 30) (w.extractLsb' 38 30) (w.extractLsb' 68 40) (w.extractLsb' 108 20)) := by
  rw [decodePackage, h]; rfl

theorem decodePackage_row71 (w : Word) (h : formatField w = 71) :
    decodePackage w = .ok (.pkg71 (w.extractLsb' 8 30) (w.extractLsb' 38 30) (w.extractLsb' 68 40) (w.extractLsb' 108 20)) := by
  rw [decodePackage, h]; rfl

theorem decodePackage_row72 (w : Word) (h : formatField w = 72) :
    decodePackage w = .ok (.pkg72 (w.extractLsb' 8 30) (w.extractLsb' 38 30) (w.extractLsb' 68 50) (w.extractLsb' 118 10)) := by
  rw [decodePackage, h]; rfl

theorem decodePackage_row73 (w : Word) (h : formatField w = 73) :
    decodePackage w = .ok (.pkg73 (w.extractLsb' 8 30) (w.extractLsb' 38 30) (w.extractLsb' 68 50) (w.extractLsb' 118 10)) := by
  rw [decodePackage, h]; rfl

theorem decodePackage_row74 (w : Word) (h : formatField w = 74) :
    decodePackage w = .ok (.pkg74 (w.extractLsb' 8 30) (w.extractLsb' 38 30) (w.extractLsb' 68 50) (w.extractLsb' 118 10)) := by
  rw [decodePackage, h]; rfl

theorem decodePackage_row75 (w : Word) (h : formatField w = 75) :
    decodePackage w = .ok (.pkg75 (w.extractLsb' 8 30) (w.extractLsb' 38 30) (w.extractLsb' 68 50) (w.extractLsb' 118 10)) := by
  rw [decodePackage, h]; rfl

theorem decodePackage_row76 (w : Word) (h : formatField w = 76) :
    decodePackage w = .ok (.pkg76 (w.extractLsb' 8 30) (w.extractLsb' 38 30) (w.extractLsb' 68 60)) := by
  rw [decodePackage, h]; rfl

theorem decodePackage_row77 (w : Word) (h : formatField w = 77) :
    decodePackage w = .ok (.pkg77 (w.extractLsb' 8 30) (w.extractLsb' 38 30) (w.extractLsb' 68 60)) := by
  rw [decodePackage, h]; rfl

theorem decodePackage_row78 (w : Word) (h : formatField w = 78) :
    decodePackage w = .ok (.pkg78 (w.extractLsb' 8 30) (w.extractLsb' 38 40) (w.extractLsb' 78 30) (w.extractLsb' 108 20)) := by
  rw [decodePackage, h]; rfl

theorem decodePackage_row79 (w : Word) (h : formatField w = 79) :
    decodePackage w = .ok (.pkg79 (w.extractLsb' 8 30) (w.extractLsb' 38 40) (w.extractLsb' 78 30) (w.extractLsb' 108 20)) := by
  rw [decodePackage, h]; rfl

theorem decodePackage_row80 (w : Word) (h : formatField w = 80) :
    decodePackage w = .ok (.pkg80 (w.extractLsb' 8 30) (w.extractLsb' 38 40) (w.extractLsb' 78 30) (w.extractLsb' 108 20)) := by
  rw [decodePackage, h]; rfl

theorem decodePackage_row81 (w : Word) (h : formatField w = 81) :
    decodePackage w = .ok (.pkg81 (w.extractLsb' 8 30) (w.extractLsb' 38 40) (w.extractLsb' 78 30) (w.extractLsb' 108 20)) := by
  rw [decodePackage, h]; rfl

theorem decodePackage_row82 (w : Word) (h : formatField w = 82) :
    decodePackage w = .ok (.pkg82 (w.extractLsb' 8 30) (w.extractLsb' 38 40) (w.extractLsb' 78 40) (w.extractLsb' 118 10)) := by
  rw [decodePackage, h]; rfl

theorem decodePackage_row83 (w : Word) (h : formatField w = 83) :
    decodePackage w = .ok (.pkg83 (w.extractLsb' 8 30) (w.extractLsb' 38 40) (w.extractLsb' 78 40) (w.extractLsb' 118 10)) := by
  rw [decodePackage, h]; rfl

theorem decodePackage_row84 (w : Word) (h : formatField w = 84) :
    decodePackage w = .ok (.pkg84 (w.extractLsb' 8 30) (w.extractLsb' 38 40) (w.extractLsb' 78 40) (w.extractLsb' 118 10)) := by
  rw [decodePackage, h]; rfl

theorem decodePackage_row85 (w : Word) (h : formatField w = 85) :
    decodePackage w = .ok (.pkg85 (w.extractLsb' 8 30) (w.extractLsb' 38 40) (w.extractLsb' 78 40) (w.extractLsb' 118 10)) := by
  rw [decodePackage, h]; rfl

theorem decodePackage_row86 (w : Word) (h : formatField w = 86) :
    decodePackage w = .ok (.pkg86 (w.extractLsb' 8 30) (w.extractLsb' 38 40) (w.extractLsb' 78 50)) := by
  rw [decodePackage, h]; rfl

theorem decodePackage_row87 (w : Word) (h : formatField w = 87) :
    decodePackage w = .ok (.pkg87 (w.extractLsb' 8 30) (w.extractLsb' 38 40) (w.extractLsb' 78 50)) := by
  rw [decodePackage, h]; rfl

theorem decodePackage_row88 (w : Word) (h : formatField w = 88) :
    decodePackage w = .ok (.pkg88 (w.extractLsb' 8 30) (w.extractLsb' 38 40) (w.extractLsb' 78 50)) := by
  rw [decodePackage, h]; rfl

theorem decodePackage_row89 (w : Word) (h : formatField w = 89) :
    decodePackage w = .ok (.pkg89 (w.extractLsb' 8 30) (w.extractLsb' 38 40) (w.extractLsb' 78 50)) := by
  rw [decodePackage, h]; rfl

theorem decodePackage_row90 (w : Word) (h : formatField w = 90) :
    decodePackage w = .ok (.pkg90 (w.extractLsb' 8 30) (w.extractLsb' 38 50) (w.extractLsb' 88 30) (w.extractLsb' 118 10)) := by
  rw [decodePackage, h]; rfl

theorem decodePackage_row91 (w : Word) (h : formatField w = 91) :
    decodePackage w = .ok (.pkg91 (w.extractLsb' 8 30) (w.extractLsb' 38 50) (w.extractLsb' 88 30) (w.extractLsb' 118 10)) := by
  rw [decodePackage, h]; rfl

theorem decodePackage_row92 (w : Word) (h : formatField w = 92) :
    decodePackage w = .ok (.pkg92 (w.extractLsb' 8 30) (w.extractLsb' 38 50) (w.extractLsb' 88 30) (w.extractLsb' 118 10)) := by
  rw [decodePackage, h]; rfl

theorem decodePackage_row93 (w : Word) (h : formatField w = 93) :
    decodePackage w = .ok (.pkg93 (w.extractLsb' 8 30) (w.extractLsb' 38 50) (w.extractLsb' 88 30) (w.extractLsb' 118 10)) := by
  rw [decodePackage, h]; rfl

theorem decodePackage_row94 (w : Word) (h : formatField w = 94) :
    decodePackage w = .ok (.pkg94 (w.extractLsb' 8 30) (w.extractLsb' 38 50) (w.extractLsb' 88 40)) := by
  rw [decodePackage, h]; rfl

theorem decodePackage_row95 (w : Word) (h : formatField w = 95) :
    decodePackage w = .ok (.pkg95 (w.extractLsb' 8 30) (w.extractLsb' 38 50) (w.extractLsb' 88 40)) := by
  rw [decodePackage, h]; rfl

theorem decodePackage_row96 (w : Word) (h : formatField w = 96) :
    decodePackage w = .ok (.pkg96 (w.extractLsb' 8 30) (w.extractLsb' 38 50) (w.extractLsb' 88 40)) := by
  rw [decodePackage, h]; rfl

theorem decodePackage_row97 (w : Word) (h : formatField w = 97) :
    decodePackage w = .ok (.pkg97 (w.extractLsb' 8 30) (w.extractLsb' 38 50) (w.extractLsb' 88 40)) := by
  rw [decodePackage, h]; rfl

theorem decodePackage_row98 (w : Word) (h : formatField w = 98) :
    decodePackage w = .ok (.pkg98 (w.extractLsb' 8 30) (w.extractLsb' 38 60) (w.extractLsb' 98 30)) := by
  rw [decodePackage, h]; rfl

theorem decodePackage_row99 (w : Word) (h : formatField w = 99) :
    decodePackage w = .ok (.pkg99 (w.extractLsb' 8 30) (w.extractLsb' 38 60) (w.extractLsb' 98 30)) := by
  rw [decodePackage, h]; rfl

theorem decodePackage_row100 (w : Word) (h : formatField w = 100) :
    decodePackage w = .ok (.pkg100 (w.extractLsb' 8 30) (w.extractLsb' 38 60) (w.extractLsb' 98 30)) := by
  rw [decodePackage, h]; rfl

theorem decodePackage_row101 (w : Word) (h : formatField w = 101) :
    decodePackage w = .ok (.pkg101 (w.extractLsb' 8 30) (w.extractLsb' 38 60) (w.extractLsb' 98 30)) := by
  rw [decodePackage, h]; rfl

theorem decodePackage_row102 (w : Word) (h : formatField w = 102) :
    decodePackage w = .ok (.pkg102 (w.extractLsb' 8 40) (w.extractLsb' 48 30) (w.extractLsb' 78 30) (w.extractLsb' 108 20)) := by
  rw [decodePackage, h]; rfl

theorem decodePackage_row103 (w : Word) (h : formatField w = 103) :
    decodePackage w = .ok (.pkg103 (w.extractLsb' 8 40) (w.extractLsb' 48 30) (w.extractLsb' 78 30) (w.extractLsb' 108 20)) := by
  rw [decodePackage, h]; rfl

theorem decodePackage_row104 (w : Word) (h : formatField w = 104) :
    decodePackage w = .ok (.pkg104 (w.extractLsb' 8 40) (w.extractLsb' 48 30) (w.extractLsb' 78 30) (w.extractLsb' 108 20)) := by
  rw [decodePackage, h]; rfl

theorem decodePackage_row105 (w : Word) (h : formatField w = 105) :
    decodePackage w = .ok (.pkg105 (w.extractLsb' 8 40) (w.extractLsb' 48 30) (w.extractLsb' 78 30) (w.extractLsb' 108 20)) := by
  rw [decodePackage, h]; rfl

theorem decodePackage_row106 (w : Word) (h : formatField w = 106) :
    decodePackage w = .ok (.pkg106 (w.extractLsb' 8 40) (w.extractLsb' 48 30) (w.extractLsb' 78 40) (w.extractLsb' 118 10)) := by
  rw [decodePackage, h]; rfl

theorem decodePackage_row107 (w : Word) (h : formatField w = 107) :
    decodePackage w = .ok (.pkg107 (w.extractLsb' 8 40) (w.extractLsb' 48 30) (w.extractLsb' 78 40) (w.extractLsb' 118 10)) := by
  rw [decodePackage, h]; rfl

theorem decodePackage_row108 (w : Word) (h : formatField w = 108) :
    decodePackage w = .ok (.pkg108 (w.extractLsb' 8 40) (w.extractLsb' 48 30) (w.extractLsb' 78 40) (w.extractLsb' 118 10)) := by
  rw [decodePackage, h]; rfl

theorem decodePackage_row109 (w : Word) (h : formatField w = 109) :
    decodePackage w = .ok (.pkg109 (w.extractLsb' 8 40) (w.extractLsb' 48 30) (w.extractLsb' 78 40) (w.extractLsb' 118 10)) := by
  rw [decodePackage, h]; rfl

theorem decodePackage_row110 (w : Word) (h : formatField w = 110) :
    decodePackage w = .ok (.pkg110 (w.extractLsb' 8 40) (w.extractLsb' 48 30) (w.extractLsb' 78 50)) := by
  rw [decodePackage, h]; rfl

theorem decodePackage_row111 (w : Word) (h : formatField w = 111) :
    decodePackage w = .ok (.pkg111 (w.extractLsb' 8 40) (w.extractLsb' 48 30) (w.extractLsb' 78 50)) := by
  rw [decodePackage, h]; rfl

theorem decodePackage_row112 (w : Word) (h : formatField w = 112) :
    decodePackage w = .ok (.pkg112 (w.extractLsb' 8 40) (w.extractLsb' 48 30) (w.extractLsb' 78 50)) := by
  rw [decodePackage, h]; rfl

theorem decodePackage_row113 (w : Word) (h : formatField w = 113) :
    decodePackage w = .ok (.pkg113 (w.extractLsb' 8 40) (w.extractLsb' 48 30) (w.extractLsb' 78 50)) := by
  rw [decodePackage, h]; rfl

theorem decodePackage_row114 (w : Word) (h : formatField w = 114) :
    decodePackage w = .ok (.pkg114 (w.extractLsb' 8 40) (w.extractLsb' 48 40) (w.extractLsb' 88 30) (w.extractLsb' 118 10)) := by
  rw [decodePackage, h]; rfl

theorem decodePackage_row115 (w : Word) (h : formatField w = 115) :
    decodePackage w = .ok (.pkg115 (w.extractLsb' 8 40) (w.extractLsb' 48 40) (w.extractLsb' 88 30) (w.extractLsb' 118 10)) := by
  rw [decodePackage, h]; rfl

theorem decodePackage_row116 (w : Word) (h : formatField w = 116) :
    decodePackage w = .ok (.pkg116 (w.extractLsb' 8 40) (w.extractLsb' 48 40) (w.extractLsb' 88 30) (w.extractLsb' 118 10)) := by
  rw [decodePackage, h]; rfl

theorem decodePackage_row117 (w : Word) (h : formatField w = 117) :
    decodePackage w = .ok (.pkg117 (w.extractLsb' 8 40) (w.extractLsb' 48 40) (w.extractLsb' 88 30) (w.extractLsb' 118 10)) := by
  rw [decodePackage, h]; rfl

theorem decodePackage_row118 (w : Word) (h : formatField w = 118) :
    decodePackage w = .ok (.pkg118 (w.extractLsb' 8 40) (w.extractLsb' 48 40) (w.extractLsb' 88 40)) := by
  rw [decodePackage, h]; rfl

theorem decodePackage_row119 (w : Word) (h : formatField w = 119) :
    decodePackage w = .ok (.pkg119 (w.extractLsb' 8 40) (w.extractLsb' 48 40) (w.extractLsb' 88 40)) := by
  rw [decodePackage, h]; rfl

theorem decodePackage_row120 (w : Word) (h : formatField w = 120) :
    decodePackage w = .ok (.pkg120 (w.extractLsb' 8 40) (w.extractLsb' 48 40) (w.extractLsb' 88 40)) := by
  rw [decodePackage, h]; rfl

theorem decodePackage_row121 (w : Word) (h : formatField w = 121) :
    decodePackage w = .ok (.pkg121 (w.extractLsb' 8 40) (w.extractLsb' 48 40) (w.extractLsb' 88 40)) := by
  rw [decodePackage, h]; rfl

theorem decodePackage_row122 (w : Word) (h : formatField w = 122) :
    decodePackage w = .ok (.pkg122 (w.extractLsb' 8 40) (w.extractLsb' 48 50) (w.extractLsb' 98 30)) := by
  rw [decodePackage, h]; rfl

theorem decodePackage_row123 (w : Word) (h : formatField w = 123) :
    decodePackage w = .ok (.pkg123 (w.extractLsb' 8 40) (w.extractLsb' 48 50) (w.extractLsb' 98 30)) := by
  rw [decodePackage, h]; rfl

theorem decodePackage_row124 (w : Word) (h : formatField w = 124) :
    decodePackage w = .ok (.pkg124 (w.extractLsb' 8 40) (w.extractLsb' 48 50) (w.extractLsb' 98 30)) := by
  rw [decodePackage, h]; rfl

theorem decodePackage_row125 (w : Word) (h : formatField w = 125) :
    decodePackage w = .ok (.pkg125 (w.extractLsb' 8 40) (w.extractLsb' 48 50) (w.extractLsb' 98 30)) := by
  rw [decodePackage, h]; rfl

theorem decodePackage_row126 (w : Word) (h : formatField w = 126) :
    decodePackage w = .ok (.pkg126 (w.extractLsb' 8 40) (w.extractLsb' 48 60) (w.extractLsb' 108 20)) := by
  rw [decodePackage, h]; rfl

theorem decodePackage_row127 (w : Word) (h : formatField w = 127) :
    decodePackage w = .ok (.pkg127 (w.extractLsb' 8 40) (w.extractLsb' 48 60) (w.extractLsb' 108 20)) := by
  rw [decodePackage, h]; rfl

theorem decodePackage_row128 (w : Word) (h : formatField w = 128) :
    decodePackage w = .ok (.pkg128 (w.extractLsb' 8 40) (w.extractLsb' 48 60) (w.extractLsb' 108 20)) := by
  rw [decodePackage, h]; rfl

theorem decodePackage_row129 (w : Word) (h : formatField w = 129) :
    decodePackage w = .ok (.pkg129 (w.extractLsb' 8 40) (w.extractLsb' 48 60) (w.extractLsb' 108 20)) := by
  rw [decodePackage, h]; rfl

theorem decodePackage_row130 (w : Word) (h : formatField w = 130) :
    decodePackage w = .ok (.pkg130 (w.extractLsb' 8 50) (w.extractLsb' 58 30) (w.extractLsb' 88 30) (w.extractLsb' 118 10)) := by
  rw [decodePackage, h]; rfl

theorem decodePackage_row131 (w : Word) (h : formatField w = 131) :
    decodePackage w = .ok (.pkg131 (w.extractLsb' 8 50) (w.extractLsb' 58 30) (w.extractLsb' 88 30) (w.extractLsb' 118 10)) := by
  rw [decodePackage, h]; rfl

theorem decodePackage_row132 (w : Word) (h : formatField w = 132) :
    decodePackage w = .ok (.pkg132 (w.extractLsb' 8 50) (w.extractLsb' 58 30) (w.extractLsb' 88 30) (w.extractLsb' 118 10)) := by
  rw [decodePackage, h]; rfl

theorem decodePackage_row133 (w : Word) (h : formatField w = 133) :
    decodePackage w = .ok (.pkg133 (w.extractLsb' 8 50) (w.extractLsb' 58 30) (w.extractLsb' 88 30) (w.extractLsb' 118 10)) := by
  rw [decodePackage, h]; rfl

theorem decodePackage_row134 (w : Word) (h : formatField w = 134) :
    decodePackage w = .ok (.pkg134 (w.extractLsb' 8 50) (w.extractLsb' 58 30) (w.extractLsb' 88 40)) := by
  rw [decodePackage, h]; rfl

theorem decodePackage_row135 (w : Word) (h : formatField w = 135) :
    decodePackage w = .ok (.pkg135 (w.extractLsb' 8 50) (w.extractLsb' 58 30) (w.extractLsb' 88 40)) := by
  rw [decodePackage, h]; rfl

theorem decodePackage_row136 (w : Word) (h : formatField w = 136) :
    decodePackage w = .ok (.pkg136 (w.extractLsb' 8 50) (w.extractLsb' 58 30) (w.extractLsb' 88 40)) := by
  rw [decodePackage, h]; rfl

theorem decodePackage_row137 (w : Word) (h : formatField w = 137) :
    decodePackage w = .ok (.pkg137 (w.extractLsb' 8 50) (w.extractLsb' 58 30) (w.extractLsb' 88 40)) := by
  rw [decodePackage, h]; rfl

theorem decodePackage_row138 (w : Word) (h : formatField w = 138) :
    decodePackage w = .ok (.pkg138 (w.extractLsb' 8 50) (w.extractLsb' 58 40) (w.extractLsb' 98 30)) := by
  rw [decodePackage, h]; rfl

theorem decodePackage_row139 (w : Word) (h : formatField w = 139) :
    decodePackage w = .ok (.pkg139 (w.extractLsb' 8 50) (w.extractLsb' 58 40) (w.extractLsb' 98 30)) := by
  rw [decodePackage, h]; rfl

theorem decodePackage_row140 (w : Word) (h : formatField w = 140) :
    decodePackage w = .ok (.pkg140 (w.extractLsb' 8 50) (w.extractLsb' 58 40) (w.extractLsb' 98 30)) := by
  rw [decodePackage, h]; rfl

theorem decodePackage_row141 (w : Word) (h : formatField w = 141) :
    decodePackage w = .ok (.pkg141 (w.extractLsb' 8 50) (w.extractLsb' 58 40) (w.extractLsb' 98 30)) := by
  rw [decodePackage, h]; rfl

theorem decodePackage_row142 (w : Word) (h : formatField w = 142) :
    decodePackage w = .ok (.pkg142 (w.extractLsb' 8 50) (w.extractLsb' 58 50) (w.extractLsb' 108 20)) := by
  rw [decodePackage, h]; rfl

theorem decodePackage_row143 (w : Word) (h : formatField w = 143) :
    decodePackage w = .ok (.pkg143 (w.extractLsb' 8 50) (w.extractLsb' 58 50) (w.extractLsb' 108 20)) := by
  rw [decodePackage, h]; rfl

theorem decodePackage_row144 (w : Word) (h : formatField w = 144) :
    decodePackage w = .ok (.pkg144 (w.extractLsb' 8 50) (w.extractLsb' 58 50) (w.extractLsb' 108 20)) := by
  rw [decodePackage, h]; rfl

theorem decodePackage_row145 (w : Word) (h : formatField w = 145) :
    decodePackage w = .ok (.pkg145 (w.extractLsb' 8 50) (w.extractLsb' 58 50) (w.extractLsb' 108 20)) := by
  rw [decodePackage, h]; rfl

theorem decodePackage_row146 (w : Word) (h : formatField w = 146) :
    decodePackage w = .ok (.pkg146 (w.extractLsb' 8 50) (w.extractLsb' 58 60) (w.extractLsb' 118 10)) := by
  rw [decodePackage, h]; rfl

theorem decodePackage_row147 (w : Word) (h : formatField w = 147) :
    decodePackage w = .ok (.pkg147 (w.extractLsb' 8 50) (w.extractLsb' 58 60) (w.extractLsb' 118 10)) := by
  rw [decodePackage, h]; rfl

theorem decodePackage_row148 (w : Word) (h : formatField w = 148) :
    decodePackage w = .ok (.pkg148 (w.extractLsb' 8 50) (w.extractLsb' 58 60) (w.extractLsb' 118 10)) := by
  rw [decodePackage, h]; rfl

theorem decodePackage_row149 (w : Word) (h : formatField w = 149) :
    decodePackage w = .ok (.pkg149 (w.extractLsb' 8 50) (w.extractLsb' 58 60) (w.extractLsb' 118 10)) := by
  rw [decodePackage, h]; rfl

theorem decodePackage_row150 (w : Word) (h : formatField w = 150) :
    decodePackage w = .ok (.pkg150 (w.extractLsb' 8 60) (w.extractLsb' 68 30) (w.extractLsb' 98 30)) := by
  rw [decodePackage, h]; rfl

theorem decodePackage_row151 (w : Word) (h : formatField w = 151) :
    decodePackage w = .ok (.pkg151 (w.extractLsb' 8 60) (w.extractLsb' 68 30) (w.extractLsb' 98 30)) := by
  rw [decodePackage, h]; rfl

theorem decodePackage_row152 (w : Word) (h : formatField w = 152) :
    decodePackage w = .ok (.pkg152 (w.extractLsb' 8 60) (w.extractLsb' 68 40) (w.extractLsb' 108 20)) := by
  rw [decodePackage, h]; rfl

theorem decodePackage_row153 (w : Word) (h : formatField w = 153) :
    decodePackage w = .ok (.pkg153 (w.extractLsb' 8 60) (w.extractLsb' 68 40) (w.extractLsb' 108 20)) := by
  rw [decodePackage, h]; rfl

theorem decodePackage_row154 (w : Word) (h : formatField w = 154) :
    decodePackage w = .ok (.pkg154 (w.extractLsb' 8 60) (w.extractLsb' 68 50) (w.extractLsb' 118 10)) := by
  rw [decodePackage, h]; rfl

theorem decodePackage_row155 (w : Word) (h : formatField w = 155) :
    decodePackage w = .ok (.pkg155 (w.extractLsb' 8 60) (w.extractLsb' 68 50) (w.extractLsb' 118 10)) := by
  rw [decodePackage, h]; rfl

theorem decodePackage_row156 (w : Word) (h : formatField w = 156) :
    decodePackage w = .ok (.pkg156 (w.extractLsb' 8 60) (w.extractLsb' 68 60)) := by
  rw [decodePackage, h]; rfl

/-- There are 157 rows (R122). -/
theorem packageRows_length : packageRows.length = 157 := by
  simp only [packageRows, List.length_append]; rfl

theorem formatTable_length : formatTable.length = 157 := by
  simp only [formatTable, List.length_append]; rfl

/-- The reserved values of the Format field, and only they, are refused (R122). -/
theorem decodePackage_reserved (w : Word) (h : 157 ≤ formatField w) : decodePackage w = .error .reservedFormat := by
  have hn : packageRows[formatField w]? = none := List.getElem?_eq_none (by rw [packageRows_length]; exact h)
  rw [decodePackage, hn]

end Sys2Proof
end

