-- ==== Sys2Proof/Laws/Dependence.lean ====
section
/-! SUPPORT. The record of memory events and the dependences among them: membership, numbering, what is recorded for a place and for a
write, and the chains of orderings. -/

namespace Sys2Proof.Machine

open Sys2Proof

theorem mem_addReads (a b : List Nat) (n : Nat) : n ∈ addReads a b ↔ n ∈ a ∨ n ∈ b := by
  unfold addReads
  induction b generalizing a with
  | nil => simp
  | cons m b ih =>
    rw [List.foldl_cons, ih]
    split
    · rename_i h
      have hm : m ∈ a := by simpa using h
      constructor
      · rintro (h | h)
        · exact .inl h
        · exact .inr (List.mem_cons_of_mem _ h)
      · rintro (h | h)
        · exact .inl h
        · rcases List.mem_cons.mp h with rfl | h
          · exact .inl hm
          · exact .inr h
    · simp only [List.mem_append, List.mem_cons, List.not_mem_nil, or_false, or_assoc]

namespace Dependences

/-- The reads of some places are those of each of them. -/
theorem mem_reads (d : Dependences) (ps : List Place) (n : Nat) : n ∈ d.reads ps ↔ ∃ p ∈ ps, n ∈ d.readsAt p := by
  have key : ∀ acc, n ∈ ps.foldl (fun acc p => addReads acc (d.readsAt p)) acc ↔ n ∈ acc ∨ ∃ p ∈ ps, n ∈ d.readsAt p := by
    induction ps with
    | nil => intro acc; simp
    | cons p ps ih => intro acc; rw [List.foldl_cons, ih, mem_addReads]; simp [or_assoc]
  rw [reads, key]; simp

/-- A place that got new contents depends on what they depend on; every other as before. -/
theorem readsAt_put (d : Dependences) (ps : List Place) (l : List Nat) (p : Place) :
    (d.put ps l).readsAt p = if p ∈ ps then l else d.readsAt p := by
  have miss : ∀ m : List (Place × List Nat), p ∉ ps →
      (m.filter (fun e => !ps.contains e.1)).find? (fun e => e.1 == p) = m.find? fun e => e.1 == p := by
    intro m h
    rw [List.find?_filter]
    congr 1
    funext e
    by_cases he : e.1 = p
    · simp [he, h]
    · simp [he]
  by_cases h : p ∈ ps
  · have : (ps.map (fun q => (q, l))).find? (fun e => e.1 == p) = some (p, l) := by
      clear miss
      induction ps with
      | nil => cases h
      | cons q ps ih =>
        by_cases hq : q = p
        · simp [hq]
        · have : p ∈ ps := by simpa [Ne.symm hq] using h
          simp [hq, ih this]
    simp only [readsAt, put, List.find?_append, this, h, if_true]; rfl
  · have : (ps.map (fun q => (q, l))).find? (fun e => e.1 == p) = none := by
      rw [List.find?_eq_none]
      intro e he
      obtain ⟨q, hq, rfl⟩ := List.mem_map.mp he
      simp only [beq_iff_eq]
      rintro rfl; exact h hq
    simp only [readsAt, put, List.find?_append, this, miss _ h, h, if_false, Option.none_or]

end Dependences

namespace State

variable (s : State)

/-- Events keep their numbers when one more is recorded, and it takes the next number. -/
theorem event?_cons {t : State} {e : Noted} (h : t.trace = e :: s.trace) (i : Nat) :
    t.event? i = if i = s.trace.length then some e else s.event? i := by
  unfold event?
  rw [h, List.reverse_cons]
  by_cases hi : i = s.trace.length
  · subst hi; simp
  · rw [if_neg hi]
    rcases Nat.lt_or_gt_of_ne hi with hlt | hgt
    · rw [List.getElem?_append_left (by simpa using hlt)]
    · rw [List.getElem?_eq_none (by simp; omega), List.getElem?_eq_none (by simp; omega)]

theorem event?_lt {i : Nat} {e : Noted} (h : s.event? i = some e) : i < s.trace.length := by
  have := (List.getElem?_eq_some_iff.mp h).1
  simpa using this

/-- Of the events from the former end of the record on, after one more was noted. -/
theorem ownFrom_cons {t : State} {e : Noted} (h : t.trace = e :: s.trace) (test : MemEvent → Bool) :
    t.ownFrom s.trace.length test = if e.initiator == .self && test e.event then [s.trace.length] else [] := by
  have before : ∀ i ∈ List.range s.trace.length, ¬ s.trace.length ≤ i := fun i hi => by
    have := List.mem_range.mp hi; omega
  unfold ownFrom
  rw [h, List.length_cons, List.range_succ, List.filter_append,
    List.filter_eq_nil_iff.mpr fun i hi => by simp [before i hi], List.nil_append, List.filter_cons, List.filter_nil,
    event?_cons s h]
  simp

/-- None is there after an instruction that noted none. -/
theorem ownFrom_same {t : State} (h : t.trace = s.trace) (test : MemEvent → Bool) : t.ownFrom s.trace.length test = [] := by
  unfold ownFrom
  rw [h, List.filter_eq_nil_iff]
  intro i hi
  have := List.mem_range.mp hi
  simp; omega

/-- What the result places of a completed instruction depend on. -/
theorem readsAt_track {f : Flow} (hf : f.recorded = false) (t : State) (p : Place) :
    (s.track f t).depend.readsAt p =
      if p ∈ f.results then
        addReads (addReads (s.depend.reads f.address) (s.depend.reads f.used)) (t.ownReads s.trace.length)
      else if p ∈ f.cleared then [] else s.depend.readsAt p := by
  simp only [track, hf]
  exact (Dependences.readsAt_put _ _ _ _).trans (by rw [Dependences.readsAt_put])

/-- What one write that an instruction made depends on. -/
theorem consumedBy_track {f : Flow} (hf : f.recorded = false) {t : State} {w : Nat}
    (h : t.trace = ⟨.self, .write w⟩ :: s.trace) :
    (s.track f t).consumedBy s.trace.length =
      ⟨s.depend.reads f.address, addReads s.depend.control (s.depend.reads f.guards), s.depend.reads f.stored⟩ := by
  have hw : t.ownWrites s.trace.length = [s.trace.length] := by
    unfold ownWrites
    rw [ownFrom_cons s h]; rfl
  simp only [track, hf]
  show State.consumedBy { t with depend := { places := _, control := _, writes := (t.ownWrites s.trace.length).map _ ++ _ } } _ = _
  rw [hw]
  simp [consumedBy]

/-- What comes before a barrier in its set P stands before it in the record. -/
theorem lt_of_mem_barrierBefore {m i : Nat} (h : i ∈ s.barrierBefore m) : i < m := by
  unfold barrierBefore at h
  split at h
  · exact List.mem_range.mp (List.mem_filter.mp h).1
  · cases h

/-- What stands in its set S comes after it in the record. -/
theorem lt_of_mem_barrierAfter {m j : Nat} (h : j ∈ s.barrierAfter m) : m < j := by
  unfold barrierAfter at h
  split at h
  · have h := (List.mem_filter.mp h).2
    split at h
    · simp only [Bool.and_eq_true, decide_eq_true_eq] at h
      exact h.1.1
    · cases h
  · cases h

/-- Everything an access of another initiator can write: memory and what is known of it, the record, the dependences. -/
theorem foreignAccess_eq (who : Initiator) (a : ForeignAccess) :
    foreignAccess s who a =
      { s with
        mem := (foreignAccess s who a).mem, stale := (foreignAccess s who a).stale,
        trace := (foreignAccess s who a).trace, depend := (foreignAccess s who a).depend } := by
  have key : ∀ a n v c, foreignWrite s who a n v c =
      { s with
        mem := (foreignWrite s who a n v c).mem, stale := (foreignWrite s who a n v c).stale,
        trace := (foreignWrite s who a n v c).trace, depend := (foreignWrite s who a n v c).depend } := by
    intro a n v c
    unfold foreignWrite put
    split <;> rfl
  cases a <;> simp only [foreignAccess, foreignAligned] <;> (repeat' split) <;> first | rfl | exact key ..

/-- What is ordered before event j in one step stands before it in the record, and j is in the record. -/
theorem lt_of_precedes {i j : Nat} (h : s.precedes i j = true) : i < j ∧ j < s.trace.length := by
  simp only [precedes, Bool.or_eq_true, List.contains_iff_mem] at h
  rcases h with (h | h) | h
  · simp only [enforced] at h
    split at h
    · exact ⟨by simp_all, s.event?_lt ‹_›⟩
    · cases h
  · simp only [serialized] at h
    split at h
    · exact ⟨by simp_all, s.event?_lt ‹_›⟩
    · cases h
  · refine ⟨s.lt_of_mem_barrierBefore h, ?_⟩
    unfold barrierBefore at h
    split at h
    · exact s.event?_lt ‹_›
    · cases h

/-- The events ordered after event m are those that a chain of single orderings reaches from it. -/
theorem mem_orderedAfterEvent (m j : Nat) :
    j ∈ s.orderedAfterEvent m ↔ Relation.TransGen (fun i k => s.precedes i k = true) m j := by
  have key : ∀ n ≤ s.trace.length, ∀ j,
      j ∈ (List.range n).foldl (fun acc j => if (m :: acc).any fun i => s.precedes i j then acc ++ [j] else acc) [] ↔
        j < n ∧ Relation.TransGen (fun i k => s.precedes i k = true) m j := by
    intro n hn
    induction n with
    | zero => simp
    | succ n ih =>
      have ih := ih (by omega)
      intro j
      rw [List.range_succ, List.foldl_append]
      simp only [List.foldl_cons, List.foldl_nil]
      generalize hacc : (List.range n).foldl
        (fun acc j => if (m :: acc).any fun i => s.precedes i j then acc ++ [j] else acc) [] = acc at ih
      have last : ((m :: acc).any fun i => s.precedes i n) = true ↔
          Relation.TransGen (fun i k => s.precedes i k = true) m n := by
        simp only [List.any_cons, List.any_eq_true, Bool.or_eq_true]
        constructor
        · rintro (h | ⟨i, hi, h⟩)
          · exact .single h
          · exact .tail ((ih i).mp hi).2 h
        · intro h
          cases h with
          | single h => exact .inl h
          | tail h1 h2 => exact .inr ⟨_, (ih _).mpr ⟨(s.lt_of_precedes h2).1, h1⟩, h2⟩
      by_cases h : ((m :: acc).any fun i => s.precedes i n) = true
      · rw [if_pos h, List.mem_append, ih, List.mem_singleton]
        constructor
        · rintro (⟨h1, h2⟩ | rfl)
          · exact ⟨by omega, h2⟩
          · exact ⟨by omega, last.mp h⟩
        · rintro ⟨h1, h2⟩
          rcases Nat.lt_succ_iff_lt_or_eq.mp h1 with h1 | rfl
          · exact .inl ⟨h1, h2⟩
          · exact .inr rfl
      · rw [if_neg h, ih]
        constructor
        · rintro ⟨h1, h2⟩; exact ⟨by omega, h2⟩
        · rintro ⟨h1, h2⟩
          rcases Nat.lt_succ_iff_lt_or_eq.mp h1 with h1 | rfl
          · exact ⟨h1, h2⟩
          · exact absurd (last.mpr h2) h
  rw [orderedAfterEvent, key _ (Nat.le_refl _)]
  refine ⟨fun h => h.2, fun h => ⟨?_, h⟩⟩
  cases h with
  | single h => exact (s.lt_of_precedes h).2
  | tail _ h => exact (s.lt_of_precedes h).2

end State

end Sys2Proof.Machine
end

