-- ==== Sys2Proof/Laws/Elements.lean ====
section
/-! SUPPORT. Bit fields and vector elements: reading back what was deposited. -/

namespace Sys2Proof.Machine

open Sys2Proof

theorem getLsbD_lowMask (n i : Nat) : (lowMask n).getLsbD i = (decide (i < n) && decide (i < 128)) := by
  rw [lowMask, BitVec.getLsbD_ofNat, Nat.testBit_two_pow_sub_one, Bool.and_comm]

/-- Every bit of a register into which n bits were deposited at lo. -/
theorem getLsbD_depositBits (old : Word) (lo n : Nat) (v : Word) (i : Nat) :
    (depositBits old lo n v).getLsbD i =
      if lo ≤ i ∧ i < lo + n ∧ i < 128 then v.getLsbD (i - lo) else old.getLsbD i := by
  unfold depositBits
  simp only [BitVec.getLsbD_or, BitVec.getLsbD_and, BitVec.getLsbD_not, BitVec.getLsbD_shiftLeft, getLsbD_lowMask]
  by_cases h128 : i < 128
  · by_cases hlo : lo ≤ i
    · have h2 : i - lo < 128 := by omega
      have h3 : ¬ i < lo := by omega
      by_cases hn : i - lo < n
      · rw [if_pos ⟨hlo, by omega, h128⟩]; simp [h128, h2, h3, hn]
      · rw [if_neg (by omega)]; simp [h128, h2, h3, hn]
    · rw [if_neg (by omega)]; simp [h128, show i < lo by omega]
  · have := BitVec.getLsbD_of_ge old i (by omega)
    rw [if_neg (by omega)]; simp [h128, this]

theorem elemBits_mul_le (t : VecType) {i : Nat} (h : i < t.count) : t.elemBits * (i + 1) ≤ 128 := by
  cases t <;> simp only [VecType.count, VecType.elemBits] at * <;> omega

/-- A bit of an element (R231). -/
theorem getLsbD_elem (v : Word) (t : VecType) (i k : Nat) :
    (elem v t i).getLsbD k = (decide (k < 64) && decide (k < t.elemBits) && v.getLsbD (t.elemBits * i + k)) := by
  rw [elem, BitVec.getLsbD_setWidth, BitVec.getLsbD_extractLsb', Bool.and_assoc]

/-- The element set is read back, the others are unchanged (R231). -/
theorem elem_setElem (v : Word) (t : VecType) (i j : Nat) (x : BitVec 64) (hj : j < t.count) :
    elem (setElem v t i x) t j = if j = i then (x.extractLsb' 0 t.elemBits).setWidth 64 else elem v t j := by
  have he := elemBits_mul_le t hj
  have hle : t.elemBits * (j + 1) = t.elemBits * j + t.elemBits := Nat.mul_succ ..
  apply BitVec.eq_of_getLsbD_eq
  intro k hk
  rw [getLsbD_elem, setElem, getLsbD_depositBits]
  by_cases hkt : k < t.elemBits
  · by_cases hji : j = i
    · subst hji
      rw [if_pos rfl, if_pos ⟨by omega, by omega, by omega⟩, BitVec.getLsbD_setWidth, BitVec.getLsbD_setWidth,
        BitVec.getLsbD_extractLsb', Nat.add_sub_cancel_left]
      simp [hk, hkt, show k < 128 by omega]
    · rw [if_neg hji, if_neg, getLsbD_elem]
      rintro ⟨h1, h2, -⟩
      rcases Nat.lt_or_gt_of_ne hji with h | h
      · have : t.elemBits * (j + 1) ≤ t.elemBits * i := Nat.mul_le_mul_left _ h
        omega
      · have : t.elemBits * (i + 1) ≤ t.elemBits * j := Nat.mul_le_mul_left _ h
        have : t.elemBits * (i + 1) = t.elemBits * i + t.elemBits := Nat.mul_succ ..
        omega
  · by_cases hji : j = i
    · rw [if_pos hji]; simp [hkt]
    · rw [if_neg hji, getLsbD_elem]; simp [hkt]

/-- Each element of the result of an element-wise operation, whatever the others are (R233, R234). -/
theorem elem_mapElems (t : VecType) (f : BitVec 64 → BitVec 64 → BitVec 64) (a : Word) (b : Nat → BitVec 64) {j : Nat}
    (hj : j < t.count) :
    elem (mapElems t f a b) t j = ((f (elem a t j) (b j)).extractLsb' 0 t.elemBits).setWidth 64 := by
  have key : ∀ n, n ≤ t.count → ∀ acc : Word,
      elem ((List.range n).foldl (fun acc i => setElem acc t i (f (elem a t i) (b i))) acc) t j =
        if j < n then ((f (elem a t j) (b j)).extractLsb' 0 t.elemBits).setWidth 64 else elem acc t j := by
    intro n
    induction n with
    | zero => intro _ acc; simp
    | succ n ih =>
      intro hn acc
      rw [List.range_succ, List.foldl_append, List.foldl_cons, List.foldl_nil, elem_setElem _ _ _ _ _ hj,
        ih (by omega)]
      by_cases h : j = n
      · subst h; simp
      · rw [if_neg h]
        by_cases h2 : j < n
        · rw [if_pos h2, if_pos (by omega)]
        · rw [if_neg h2, if_neg (by omega)]
  rw [mapElems, key _ (Nat.le_refl _), if_pos hj]

/-- In every form of extension the low bits are the value (R200, R252). -/
theorem getLsbD_extendOver (e : Extend) (n : Nat) (v old : Word) {i : Nat} (h : i < n) (h2 : i < 128) :
    (extendOver e n v old).getLsbD i = v.getLsbD i := by
  cases e with
  | zero => simp [extendOver, getLsbD_lowMask, h, h2]
  | sign => simp only [extendOver, getLsbD_depositBits]; rw [if_pos (by omega), Nat.sub_zero]
  | keep => simp only [extendOver, getLsbD_depositBits]; rw [if_pos (by omega), Nat.sub_zero]
  | implementation k => simp only [extendOver, getLsbD_depositBits]; rw [if_pos (by omega), Nat.sub_zero]

/-- The low bits of a register after an n-bit result was written to it, n within the register's width. -/
theorem getLsbD_readReg_fill (s : State) (r : Reg) (n : Nat) (v : Word) (e : Extend) (hn : n ≤ r.width) {i : Nat}
    (h : i < n) : ((s.fill r n v e).readReg r).getLsbD i = v.getLsbD i := by
  have hw : r.width = 128 ∨ r.width = 64 := by cases r <;> simp [Reg.width]
  rw [State.fill, State.readReg_writeReg]
  rcases hw with hw | hw
  · rw [if_pos hw, getLsbD_extendOver _ _ _ _ h (by omega)]
  · rw [if_neg (by omega), BitVec.getLsbD_setWidth, BitVec.getLsbD_setWidth, getLsbD_extendOver _ _ _ _ h (by omega)]
    simp [show i < 64 by omega, show i < 128 by omega]

end Sys2Proof.Machine
end

