-- ==== Sys2Proof/Laws/PerInstr.lean ====
section
/-! SUPPORT. Families of statements about every instruction as syntax, one lemma per constructor of Instr. -/

namespace Sys2Proof.Laws.EncodingShape

open Sys2Proof

/-- An instruction is encoded as a package word exactly if it is a row of package formats. -/
def Statement (i : Instr) : Prop := (∃ w, encode i = some (.package w)) ↔ i.package?.isSome = true

/-- An instruction whose encoding is a package word and whose row is a package format. -/
theorem of_package {i : Instr} {w : Word} {p : Package} (he : encode i = some (.package w))
    (hp : i.package? = some p) : Statement i := by
  unfold Statement; rw [he, hp]; exact ⟨fun _ => rfl, fun _ => ⟨w, rfl⟩⟩

/-- An instruction that has no package encoding and whose row is no package format. -/
theorem of_other {i : Instr} (he : ∀ w, encode i ≠ some (.package w)) (hp : i.package? = none) : Statement i := by
  unfold Statement; rw [hp]; exact ⟨fun h => absurd h.choose_spec (he _), fun h => nomatch h⟩

theorem pkg0 (t : BitVec 10) (i0 : BitVec 30) (i1 : BitVec 30) (i2 : BitVec 30) (z : BitVec 20) :
    Statement (.pkg0 t i0 i1 i2 z) := of_package rfl rfl
theorem pkg1 (t : BitVec 10) (i0 : BitVec 30) (i1 : BitVec 30) (i2 : BitVec 30) (i3L : BitVec 20) :
    Statement (.pkg1 t i0 i1 i2 i3L) := of_package rfl rfl
theorem pkg2 (t : BitVec 10) (i0 : BitVec 30) (i1 : BitVec 30) (i2 : BitVec 40) (z : BitVec 10) :
    Statement (.pkg2 t i0 i1 i2 z) := of_package rfl rfl
theorem pkg3 (t : BitVec 10) (i0 : BitVec 30) (i1 : BitVec 30) (i2 : BitVec 40) (i3L : BitVec 10) :
    Statement (.pkg3 t i0 i1 i2 i3L) := of_package rfl rfl
theorem pkg4 (t : BitVec 10) (i0 : BitVec 30) (i1 : BitVec 30) (i2 : BitVec 50) :
    Statement (.pkg4 t i0 i1 i2) := of_package rfl rfl
theorem pkg5 (t : BitVec 10) (i0 : BitVec 30) (i1 : BitVec 30) (i2L : BitVec 50) :
    Statement (.pkg5 t i0 i1 i2L) := of_package rfl rfl
theorem pkg6 (t : BitVec 10) (i0 : BitVec 30) (i1 : BitVec 40) (i2 : BitVec 30) (z : BitVec 10) :
    Statement (.pkg6 t i0 i1 i2 z) := of_package rfl rfl
theorem pkg7 (t : BitVec 10) (i0 : BitVec 30) (i1 : BitVec 40) (i2 : BitVec 30) (i3L : BitVec 10) :
    Statement (.pkg7 t i0 i1 i2 i3L) := of_package rfl rfl
theorem pkg8 (t : BitVec 10) (i0 : BitVec 30) (i1 : BitVec 40) (i2 : BitVec 40) :
    Statement (.pkg8 t i0 i1 i2) := of_package rfl rfl
theorem pkg9 (t : BitVec 10) (i0 : BitVec 30) (i1 : BitVec 40) (i2L : BitVec 40) :
    Statement (.pkg9 t i0 i1 i2L) := of_package rfl rfl
theorem pkg10 (t : BitVec 10) (i0 : BitVec 30) (i1 : BitVec 50) (i2 : BitVec 30) :
    Statement (.pkg10 t i0 i1 i2) := of_package rfl rfl
theorem pkg11 (t : BitVec 10) (i0 : BitVec 30) (i1 : BitVec 50) (i2L : BitVec 30) :
    Statement (.pkg11 t i0 i1 i2L) := of_package rfl rfl
theorem pkg12 (t : BitVec 10) (i0 : BitVec 30) (i1 : BitVec 60) (z : BitVec 20) :
    Statement (.pkg12 t i0 i1 z) := of_package rfl rfl
theorem pkg13 (t : BitVec 10) (i0 : BitVec 30) (i1 : BitVec 60) (i2L : BitVec 20) :
    Statement (.pkg13 t i0 i1 i2L) := of_package rfl rfl
theorem pkg14 (t : BitVec 10) (i0 : BitVec 40) (i1 : BitVec 30) (i2 : BitVec 30) (z : BitVec 10) :
    Statement (.pkg14 t i0 i1 i2 z) := of_package rfl rfl
theorem pkg15 (t : BitVec 10) (i0 : BitVec 40) (i1 : BitVec 30) (i2 : BitVec 30) (i3L : BitVec 10) :
    Statement (.pkg15 t i0 i1 i2 i3L) := of_package rfl rfl
theorem pkg16 (t : BitVec 10) (i0 : BitVec 40) (i1 : BitVec 30) (i2 : BitVec 40) :
    Statement (.pkg16 t i0 i1 i2) := of_package rfl rfl
theorem pkg17 (t : BitVec 10) (i0 : BitVec 40) (i1 : BitVec 30) (i2L : BitVec 40) :
    Statement (.pkg17 t i0 i1 i2L) := of_package rfl rfl
theorem pkg18 (t : BitVec 10) (i0 : BitVec 40) (i1 : BitVec 40) (i2 : BitVec 30) :
    Statement (.pkg18 t i0 i1 i2) := of_package rfl rfl
theorem pkg19 (t : BitVec 10) (i0 : BitVec 40) (i1 : BitVec 40) (i2L : BitVec 30) :
    Statement (.pkg19 t i0 i1 i2L) := of_package rfl rfl
theorem pkg20 (t : BitVec 10) (i0 : BitVec 40) (i1 : BitVec 50) (z : BitVec 20) :
    Statement (.pkg20 t i0 i1 z) := of_package rfl rfl
theorem pkg21 (t : BitVec 10) (i0 : BitVec 40) (i1 : BitVec 50) (i2L : BitVec 20) :
    Statement (.pkg21 t i0 i1 i2L) := of_package rfl rfl
theorem pkg22 (t : BitVec 10) (i0 : BitVec 40) (i1 : BitVec 60) (z : BitVec 10) :
    Statement (.pkg22 t i0 i1 z) := of_package rfl rfl
theorem pkg23 (t : BitVec 10) (i0 : BitVec 40) (i1 : BitVec 60) (i2L : BitVec 10) :
    Statement (.pkg23 t i0 i1 i2L) := of_package rfl rfl
theorem pkg24 (t : BitVec 10) (i0 : BitVec 50) (i1 : BitVec 30) (i2 : BitVec 30) :
    Statement (.pkg24 t i0 i1 i2) := of_package rfl rfl
theorem pkg25 (t : BitVec 10) (i0 : BitVec 50) (i1 : BitVec 30) (i2L : BitVec 30) :
    Statement (.pkg25 t i0 i1 i2L) := of_package rfl rfl
theorem pkg26 (t : BitVec 10) (i0 : BitVec 50) (i1 : BitVec 40) (z : BitVec 20) :
    Statement (.pkg26 t i0 i1 z) := of_package rfl rfl
theorem pkg27 (t : BitVec 10) (i0 : BitVec 50) (i1 : BitVec 40) (i2L : BitVec 20) :
    Statement (.pkg27 t i0 i1 i2L) := of_package rfl rfl
theorem pkg28 (t : BitVec 10) (i0 : BitVec 50) (i1 : BitVec 50) (z : BitVec 10) :
    Statement (.pkg28 t i0 i1 z) := of_package rfl rfl
theorem pkg29 (t : BitVec 10) (i0 : BitVec 50) (i1 : BitVec 50) (i2L : BitVec 10) :
    Statement (.pkg29 t i0 i1 i2L) := of_package rfl rfl
theorem pkg30 (t : BitVec 10) (i0 : BitVec 50) (i1 : BitVec 60) :
    Statement (.pkg30 t i0 i1) := of_package rfl rfl
theorem pkg31 (t : BitVec 10) (i0 : BitVec 60) (i1 : BitVec 30) (z : BitVec 20) :
    Statement (.pkg31 t i0 i1 z) := of_package rfl rfl
theorem pkg32 (t : BitVec 10) (i0 : BitVec 60) (i1 : BitVec 30) (i2L : BitVec 20) :
    Statement (.pkg32 t i0 i1 i2L) := of_package rfl rfl
theorem pkg33 (t : BitVec 10) (i0 : BitVec 60) (i1 : BitVec 40) (z : BitVec 10) :
    Statement (.pkg33 t i0 i1 z) := of_package rfl rfl
theorem pkg34 (t : BitVec 10) (i0 : BitVec 60) (i1 : BitVec 40) (i2L : BitVec 10) :
    Statement (.pkg34 t i0 i1 i2L) := of_package rfl rfl
theorem pkg35 (t : BitVec 10) (i0 : BitVec 60) (i1 : BitVec 50) :
    Statement (.pkg35 t i0 i1) := of_package rfl rfl
theorem pkg36 (t : BitVec 10) (i0 : BitVec 60) (i1L : BitVec 50) :
    Statement (.pkg36 t i0 i1L) := of_package rfl rfl
theorem pkg37 (t : BitVec 20) (i0 : BitVec 30) (i1 : BitVec 30) (i2 : BitVec 30) (z : BitVec 10) :
    Statement (.pkg37 t i0 i1 i2 z) := of_package rfl rfl
theorem pkg38 (t : BitVec 20) (i0 : BitVec 30) (i1 : BitVec 30) (i2 : BitVec 30) (i3L : BitVec 10) :
    Statement (.pkg38 t i0 i1 i2 i3L) := of_package rfl rfl
theorem pkg39 (t : BitVec 20) (i0 : BitVec 30) (i1 : BitVec 30) (i2 : BitVec 40) :
    Statement (.pkg39 t i0 i1 i2) := of_package rfl rfl
theorem pkg40 (t : BitVec 20) (i0 : BitVec 30) (i1 : BitVec 30) (i2L : BitVec 40) :
    Statement (.pkg40 t i0 i1 i2L) := of_package rfl rfl
theorem pkg41 (t : BitVec 20) (i0 : BitVec 30) (i1 : BitVec 40) (i2 : BitVec 30) :
    Statement (.pkg41 t i0 i1 i2) := of_package rfl rfl
theorem pkg42 (t : BitVec 20) (i0 : BitVec 30) (i1 : BitVec 40) (i2L : BitVec 30) :
    Statement (.pkg42 t i0 i1 i2L) := of_package rfl rfl
theorem pkg43 (t : BitVec 20) (i0 : BitVec 30) (i1 : BitVec 50) (z : BitVec 20) :
    Statement (.pkg43 t i0 i1 z) := of_package rfl rfl
theorem pkg44 (t : BitVec 20) (i0 : BitVec 30) (i1 : BitVec 50) (i2L : BitVec 20) :
    Statement (.pkg44 t i0 i1 i2L) := of_package rfl rfl
theorem pkg45 (t : BitVec 20) (i0 : BitVec 30) (i1 : BitVec 60) (z : BitVec 10) :
    Statement (.pkg45 t i0 i1 z) := of_package rfl rfl
theorem pkg46 (t : BitVec 20) (i0 : BitVec 30) (i1 : BitVec 60) (i2L : BitVec 10) :
    Statement (.pkg46 t i0 i1 i2L) := of_package rfl rfl
theorem pkg47 (t : BitVec 20) (i0 : BitVec 40) (i1 : BitVec 30) (i2 : BitVec 30) :
    Statement (.pkg47 t i0 i1 i2) := of_package rfl rfl
theorem pkg48 (t : BitVec 20) (i0 : BitVec 40) (i1 : BitVec 30) (i2L : BitVec 30) :
    Statement (.pkg48 t i0 i1 i2L) := of_package rfl rfl
theorem pkg49 (t : BitVec 20) (i0 : BitVec 40) (i1 : BitVec 40) (z : BitVec 20) :
    Statement (.pkg49 t i0 i1 z) := of_package rfl rfl
theorem pkg50 (t : BitVec 20) (i0 : BitVec 40) (i1 : BitVec 40) (i2L : BitVec 20) :
    Statement (.pkg50 t i0 i1 i2L) := of_package rfl rfl
theorem pkg51 (t : BitVec 20) (i0 : BitVec 40) (i1 : BitVec 50) (z : BitVec 10) :
    Statement (.pkg51 t i0 i1 z) := of_package rfl rfl
theorem pkg52 (t : BitVec 20) (i0 : BitVec 40) (i1 : BitVec 50) (i2L : BitVec 10) :
    Statement (.pkg52 t i0 i1 i2L) := of_package rfl rfl
theorem pkg53 (t : BitVec 20) (i0 : BitVec 40) (i1 : BitVec 60) :
    Statement (.pkg53 t i0 i1) := of_package rfl rfl
theorem pkg54 (t : BitVec 20) (i0 : BitVec 50) (i1 : BitVec 30) (z : BitVec 20) :
    Statement (.pkg54 t i0 i1 z) := of_package rfl rfl
theorem pkg55 (t : BitVec 20) (i0 : BitVec 50) (i1 : BitVec 30) (i2L : BitVec 20) :
    Statement (.pkg55 t i0 i1 i2L) := of_package rfl rfl
theorem pkg56 (t : BitVec 20) (i0 : BitVec 50) (i1 : BitVec 40) (z : BitVec 10) :
    Statement (.pkg56 t i0 i1 z) := of_package rfl rfl
theorem pkg57 (t : BitVec 20) (i0 : BitVec 50) (i1 : BitVec 40) (i2L : BitVec 10) :
    Statement (.pkg57 t i0 i1 i2L) := of_package rfl rfl
theorem pkg58 (t : BitVec 20) (i0 : BitVec 50) (i1 : BitVec 50) :
    Statement (.pkg58 t i0 i1) := of_package rfl rfl
theorem pkg59 (t : BitVec 20) (i0 : BitVec 50) (i1L : BitVec 50) :
    Statement (.pkg59 t i0 i1L) := of_package rfl rfl
theorem pkg60 (t : BitVec 20) (i0 : BitVec 60) (i1 : BitVec 30) (z : BitVec 10) :
    Statement (.pkg60 t i0 i1 z) := of_package rfl rfl
theorem pkg61 (t : BitVec 20) (i0 : BitVec 60) (i1 : BitVec 30) (i2L : BitVec 10) :
    Statement (.pkg61 t i0 i1 i2L) := of_package rfl rfl
theorem pkg62 (t : BitVec 20) (i0 : BitVec 60) (i1 : BitVec 40) :
    Statement (.pkg62 t i0 i1) := of_package rfl rfl
theorem pkg63 (t : BitVec 20) (i0 : BitVec 60) (i1L : BitVec 40) :
    Statement (.pkg63 t i0 i1L) := of_package rfl rfl
theorem pkg64 (t : BitVec 30) (i0 : BitVec 30) (i1 : BitVec 30) (i2 : BitVec 30) :
    Statement (.pkg64 t i0 i1 i2) := of_package rfl rfl
theorem pkg65 (t : BitVec 30) (i0 : BitVec 30) (i1 : BitVec 30) (i2L : BitVec 30) :
    Statement (.pkg65 t i0 i1 i2L) := of_package rfl rfl
theorem pkg66 (i0 : BitVec 30) (i1 : BitVec 30) (i2 : BitVec 30) (i3 : BitVec 30) :
    Statement (.pkg66 i0 i1 i2 i3) := of_package rfl rfl
theorem pkg67 (i0 : BitVec 30) (i1 : BitVec 30) (i2 : BitVec 30) (i3L : BitVec 30) :
    Statement (.pkg67 i0 i1 i2 i3L) := of_package rfl rfl
theorem pkg68 (t : BitVec 30) (i0 : BitVec 30) (i1 : BitVec 40) (z : BitVec 20) :
    Statement (.pkg68 t i0 i1 z) := of_package rfl rfl
theorem pkg69 (t : BitVec 30) (i0 : BitVec 30) (i1 : BitVec 40) (i2L : BitVec 20) :
    Statement (.pkg69 t i0 i1 i2L) := of_package rfl rfl
theorem pkg70 (i0 : BitVec 30) (i1 : BitVec 30) (i2 : BitVec 40) (z : BitVec 20) :
    Statement (.pkg70 i0 i1 i2 z) := of_package rfl rfl
theorem pkg71 (i0 : BitVec 30) (i1 : BitVec 30) (i2 : BitVec 40) (i3L : BitVec 20) :
    Statement (.pkg71 i0 i1 i2 i3L) := of_package rfl rfl
theorem pkg72 (t : BitVec 30) (i0 : BitVec 30) (i1 : BitVec 50) (z : BitVec 10) :
    Statement (.pkg72 t i0 i1 z) := of_package rfl rfl
theorem pkg73 (t : BitVec 30) (i0 : BitVec 30) (i1 : BitVec 50) (i2L : BitVec 10) :
    Statement (.pkg73 t i0 i1 i2L) := of_package rfl rfl
theorem pkg74 (i0 : BitVec 30) (i1 : BitVec 30) (i2 : BitVec 50) (z : BitVec 10) :
    Statement (.pkg74 i0 i1 i2 z) := of_package rfl rfl
theorem pkg75 (i0 : BitVec 30) (i1 : BitVec 30) (i2 : BitVec 50) (i3L : BitVec 10) :
    Statement (.pkg75 i0 i1 i2 i3L) := of_package rfl rfl
theorem pkg76 (t : BitVec 30) (i0 : BitVec 30) (i1 : BitVec 60) :
    Statement (.pkg76 t i0 i1) := of_package rfl rfl
theorem pkg77 (i0 : BitVec 30) (i1 : BitVec 30) (i2 : BitVec 60) :
    Statement (.pkg77 i0 i1 i2) := of_package rfl rfl
theorem pkg78 (t : BitVec 30) (i0 : BitVec 40) (i1 : BitVec 30) (z : BitVec 20) :
    Statement (.pkg78 t i0 i1 z) := of_package rfl rfl
theorem pkg79 (t : BitVec 30) (i0 : BitVec 40) (i1 : BitVec 30) (i2L : BitVec 20) :
    Statement (.pkg79 t i0 i1 i2L) := of_package rfl rfl
theorem pkg80 (i0 : BitVec 30) (i1 : BitVec 40) (i2 : BitVec 30) (z : BitVec 20) :
    Statement (.pkg80 i0 i1 i2 z) := of_package rfl rfl
theorem pkg81 (i0 : BitVec 30) (i1 : BitVec 40) (i2 : BitVec 30) (i3L : BitVec 20) :
    Statement (.pkg81 i0 i1 i2 i3L) := of_package rfl rfl
theorem pkg82 (t : BitVec 30) (i0 : BitVec 40) (i1 : BitVec 40) (z : BitVec 10) :
    Statement (.pkg82 t i0 i1 z) := of_package rfl rfl
theorem pkg83 (t : BitVec 30) (i0 : BitVec 40) (i1 : BitVec 40) (i2L : BitVec 10) :
    Statement (.pkg83 t i0 i1 i2L) := of_package rfl rfl
theorem pkg84 (i0 : BitVec 30) (i1 : BitVec 40) (i2 : BitVec 40) (z : BitVec 10) :
    Statement (.pkg84 i0 i1 i2 z) := of_package rfl rfl
theorem pkg85 (i0 : BitVec 30) (i1 : BitVec 40) (i2 : BitVec 40) (i3L : BitVec 10) :
    Statement (.pkg85 i0 i1 i2 i3L) := of_package rfl rfl
theorem pkg86 (t : BitVec 30) (i0 : BitVec 40) (i1 : BitVec 50) :
    Statement (.pkg86 t i0 i1) := of_package rfl rfl
theorem pkg87 (t : BitVec 30) (i0 : BitVec 40) (i1L : BitVec 50) :
    Statement (.pkg87 t i0 i1L) := of_package rfl rfl
theorem pkg88 (i0 : BitVec 30) (i1 : BitVec 40) (i2 : BitVec 50) :
    Statement (.pkg88 i0 i1 i2) := of_package rfl rfl
theorem pkg89 (i0 : BitVec 30) (i1 : BitVec 40) (i2L : BitVec 50) :
    Statement (.pkg89 i0 i1 i2L) := of_package rfl rfl
theorem pkg90 (t : BitVec 30) (i0 : BitVec 50) (i1 : BitVec 30) (z : BitVec 10) :
    Statement (.pkg90 t i0 i1 z) := of_package rfl rfl
theorem pkg91 (t : BitVec 30) (i0 : BitVec 50) (i1 : BitVec 30) (i2L : BitVec 10) :
    Statement (.pkg91 t i0 i1 i2L) := of_package rfl rfl
theorem pkg92 (i0 : BitVec 30) (i1 : BitVec 50) (i2 : BitVec 30) (z : BitVec 10) :
    Statement (.pkg92 i0 i1 i2 z) := of_package rfl rfl
theorem pkg93 (i0 : BitVec 30) (i1 : BitVec 50) (i2 : BitVec 30) (i3L : BitVec 10) :
    Statement (.pkg93 i0 i1 i2 i3L) := of_package rfl rfl
theorem pkg94 (t : BitVec 30) (i0 : BitVec 50) (i1 : BitVec 40) :
    Statement (.pkg94 t i0 i1) := of_package rfl rfl
theorem pkg95 (t : BitVec 30) (i0 : BitVec 50) (i1L : BitVec 40) :
    Statement (.pkg95 t i0 i1L) := of_package rfl rfl
theorem pkg96 (i0 : BitVec 30) (i1 : BitVec 50) (i2 : BitVec 40) :
    Statement (.pkg96 i0 i1 i2) := of_package rfl rfl
theorem pkg97 (i0 : BitVec 30) (i1 : BitVec 50) (i2L : BitVec 40) :
    Statement (.pkg97 i0 i1 i2L) := of_package rfl rfl
theorem pkg98 (t : BitVec 30) (i0 : BitVec 60) (i1 : BitVec 30) :
    Statement (.pkg98 t i0 i1) := of_package rfl rfl
theorem pkg99 (t : BitVec 30) (i0 : BitVec 60) (i1L : BitVec 30) :
    Statement (.pkg99 t i0 i1L) := of_package rfl rfl
theorem pkg100 (i0 : BitVec 30) (i1 : BitVec 60) (i2 : BitVec 30) :
    Statement (.pkg100 i0 i1 i2) := of_package rfl rfl
theorem pkg101 (i0 : BitVec 30) (i1 : BitVec 60) (i2L : BitVec 30) :
    Statement (.pkg101 i0 i1 i2L) := of_package rfl rfl
theorem pkg102 (t : BitVec 40) (i0 : BitVec 30) (i1 : BitVec 30) (z : BitVec 20) :
    Statement (.pkg102 t i0 i1 z) := of_package rfl rfl
theorem pkg103 (t : BitVec 40) (i0 : BitVec 30) (i1 : BitVec 30) (i2L : BitVec 20) :
    Statement (.pkg103 t i0 i1 i2L) := of_package rfl rfl
theorem pkg104 (i0 : BitVec 40) (i1 : BitVec 30) (i2 : BitVec 30) (z : BitVec 20) :
    Statement (.pkg104 i0 i1 i2 z) := of_package rfl rfl
theorem pkg105 (i0 : BitVec 40) (i1 : BitVec 30) (i2 : BitVec 30) (i3L : BitVec 20) :
    Statement (.pkg105 i0 i1 i2 i3L) := of_package rfl rfl
theorem pkg106 (t : BitVec 40) (i0 : BitVec 30) (i1 : BitVec 40) (z : BitVec 10) :
    Statement (.pkg106 t i0 i1 z) := of_package rfl rfl
theorem pkg107 (t : BitVec 40) (i0 : BitVec 30) (i1 : BitVec 40) (i2L : BitVec 10) :
    Statement (.pkg107 t i0 i1 i2L) := of_package rfl rfl
theorem pkg108 (i0 : BitVec 40) (i1 : BitVec 30) (i2 : BitVec 40) (z : BitVec 10) :
    Statement (.pkg108 i0 i1 i2 z) := of_package rfl rfl
theorem pkg109 (i0 : BitVec 40) (i1 : BitVec 30) (i2 : BitVec 40) (i3L : BitVec 10) :
    Statement (.pkg109 i0 i1 i2 i3L) := of_package rfl rfl
theorem pkg110 (t : BitVec 40) (i0 : BitVec 30) (i1 : BitVec 50) :
    Statement (.pkg110 t i0 i1) := of_package rfl rfl
theorem pkg111 (t : BitVec 40) (i0 : BitVec 30) (i1L : BitVec 50) :
    Statement (.pkg111 t i0 i1L) := of_package rfl rfl
theorem pkg112 (i0 : BitVec 40) (i1 : BitVec 30) (i2 : BitVec 50) :
    Statement (.pkg112 i0 i1 i2) := of_package rfl rfl
theorem pkg113 (i0 : BitVec 40) (i1 : BitVec 30) (i2L : BitVec 50) :
    Statement (.pkg113 i0 i1 i2L) := of_package rfl rfl
theorem pkg114 (t : BitVec 40) (i0 : BitVec 40) (i1 : BitVec 30) (z : BitVec 10) :
    Statement (.pkg114 t i0 i1 z) := of_package rfl rfl
theorem pkg115 (t : BitVec 40) (i0 : BitVec 40) (i1 : BitVec 30) (i2L : BitVec 10) :
    Statement (.pkg115 t i0 i1 i2L) := of_package rfl rfl
theorem pkg116 (i0 : BitVec 40) (i1 : BitVec 40) (i2 : BitVec 30) (z : BitVec 10) :
    Statement (.pkg116 i0 i1 i2 z) := of_package rfl rfl
theorem pkg117 (i0 : BitVec 40) (i1 : BitVec 40) (i2 : BitVec 30) (i3L : BitVec 10) :
    Statement (.pkg117 i0 i1 i2 i3L) := of_package rfl rfl
theorem pkg118 (t : BitVec 40) (i0 : BitVec 40) (i1 : BitVec 40) :
    Statement (.pkg118 t i0 i1) := of_package rfl rfl
theorem pkg119 (t : BitVec 40) (i0 : BitVec 40) (i1L : BitVec 40) :
    Statement (.pkg119 t i0 i1L) := of_package rfl rfl
theorem pkg120 (i0 : BitVec 40) (i1 : BitVec 40) (i2 : BitVec 40) :
    Statement (.pkg120 i0 i1 i2) := of_package rfl rfl
theorem pkg121 (i0 : BitVec 40) (i1 : BitVec 40) (i2L : BitVec 40) :
    Statement (.pkg121 i0 i1 i2L) := of_package rfl rfl
theorem pkg122 (t : BitVec 40) (i0 : BitVec 50) (i1 : BitVec 30) :
    Statement (.pkg122 t i0 i1) := of_package rfl rfl
theorem pkg123 (t : BitVec 40) (i0 : BitVec 50) (i1L : BitVec 30) :
    Statement (.pkg123 t i0 i1L) := of_package rfl rfl
theorem pkg124 (i0 : BitVec 40) (i1 : BitVec 50) (i2 : BitVec 30) :
    Statement (.pkg124 i0 i1 i2) := of_package rfl rfl
theorem pkg125 (i0 : BitVec 40) (i1 : BitVec 50) (i2L : BitVec 30) :
    Statement (.pkg125 i0 i1 i2L) := of_package rfl rfl
theorem pkg126 (t : BitVec 40) (i0 : BitVec 60) (z : BitVec 20) :
    Statement (.pkg126 t i0 z) := of_package rfl rfl
theorem pkg127 (t : BitVec 40) (i0 : BitVec 60) (i1L : BitVec 20) :
    Statement (.pkg127 t i0 i1L) := of_package rfl rfl
theorem pkg128 (i0 : BitVec 40) (i1 : BitVec 60) (z : BitVec 20) :
    Statement (.pkg128 i0 i1 z) := of_package rfl rfl
theorem pkg129 (i0 : BitVec 40) (i1 : BitVec 60) (i2L : BitVec 20) :
    Statement (.pkg129 i0 i1 i2L) := of_package rfl rfl
theorem pkg130 (t : BitVec 50) (i0 : BitVec 30) (i1 : BitVec 30) (z : BitVec 10) :
    Statement (.pkg130 t i0 i1 z) := of_package rfl rfl
theorem pkg131 (t : BitVec 50) (i0 : BitVec 30) (i1 : BitVec 30) (i2L : BitVec 10) :
    Statement (.pkg131 t i0 i1 i2L) := of_package rfl rfl
theorem pkg132 (i0 : BitVec 50) (i1 : BitVec 30) (i2 : BitVec 30) (z : BitVec 10) :
    Statement (.pkg132 i0 i1 i2 z) := of_package rfl rfl
theorem pkg133 (i0 : BitVec 50) (i1 : BitVec 30) (i2 : BitVec 30) (i3L : BitVec 10) :
    Statement (.pkg133 i0 i1 i2 i3L) := of_package rfl rfl
theorem pkg134 (t : BitVec 50) (i0 : BitVec 30) (i1 : BitVec 40) :
    Statement (.pkg134 t i0 i1) := of_package rfl rfl
theorem pkg135 (t : BitVec 50) (i0 : BitVec 30) (i1L : BitVec 40) :
    Statement (.pkg135 t i0 i1L) := of_package rfl rfl
theorem pkg136 (i0 : BitVec 50) (i1 : BitVec 30) (i2 : BitVec 40) :
    Statement (.pkg136 i0 i1 i2) := of_package rfl rfl
theorem pkg137 (i0 : BitVec 50) (i1 : BitVec 30) (i2L : BitVec 40) :
    Statement (.pkg137 i0 i1 i2L) := of_package rfl rfl
theorem pkg138 (t : BitVec 50) (i0 : BitVec 40) (i1 : BitVec 30) :
    Statement (.pkg138 t i0 i1) := of_package rfl rfl
theorem pkg139 (t : BitVec 50) (i0 : BitVec 40) (i1L : BitVec 30) :
    Statement (.pkg139 t i0 i1L) := of_package rfl rfl
theorem pkg140 (i0 : BitVec 50) (i1 : BitVec 40) (i2 : BitVec 30) :
    Statement (.pkg140 i0 i1 i2) := of_package rfl rfl
theorem pkg141 (i0 : BitVec 50) (i1 : BitVec 40) (i2L : BitVec 30) :
    Statement (.pkg141 i0 i1 i2L) := of_package rfl rfl
theorem pkg142 (t : BitVec 50) (i0 : BitVec 50) (z : BitVec 20) :
    Statement (.pkg142 t i0 z) := of_package rfl rfl
theorem pkg143 (t : BitVec 50) (i0 : BitVec 50) (i1L : BitVec 20) :
    Statement (.pkg143 t i0 i1L) := of_package rfl rfl
theorem pkg144 (i0 : BitVec 50) (i1 : BitVec 50) (z : BitVec 20) :
    Statement (.pkg144 i0 i1 z) := of_package rfl rfl
theorem pkg145 (i0 : BitVec 50) (i1 : BitVec 50) (i2L : BitVec 20) :
    Statement (.pkg145 i0 i1 i2L) := of_package rfl rfl
theorem pkg146 (t : BitVec 50) (i0 : BitVec 60) (z : BitVec 10) :
    Statement (.pkg146 t i0 z) := of_package rfl rfl
theorem pkg147 (t : BitVec 50) (i0 : BitVec 60) (i1L : BitVec 10) :
    Statement (.pkg147 t i0 i1L) := of_package rfl rfl
theorem pkg148 (i0 : BitVec 50) (i1 : BitVec 60) (z : BitVec 10) :
    Statement (.pkg148 i0 i1 z) := of_package rfl rfl
theorem pkg149 (i0 : BitVec 50) (i1 : BitVec 60) (i2L : BitVec 10) :
    Statement (.pkg149 i0 i1 i2L) := of_package rfl rfl
theorem pkg150 (i0 : BitVec 60) (i1 : BitVec 30) (i2 : BitVec 30) :
    Statement (.pkg150 i0 i1 i2) := of_package rfl rfl
theorem pkg151 (i0 : BitVec 60) (i1 : BitVec 30) (i2L : BitVec 30) :
    Statement (.pkg151 i0 i1 i2L) := of_package rfl rfl
theorem pkg152 (i0 : BitVec 60) (i1 : BitVec 40) (z : BitVec 20) :
    Statement (.pkg152 i0 i1 z) := of_package rfl rfl
theorem pkg153 (i0 : BitVec 60) (i1 : BitVec 40) (i2L : BitVec 20) :
    Statement (.pkg153 i0 i1 i2L) := of_package rfl rfl
theorem pkg154 (i0 : BitVec 60) (i1 : BitVec 50) (z : BitVec 10) :
    Statement (.pkg154 i0 i1 z) := of_package rfl rfl
theorem pkg155 (i0 : BitVec 60) (i1 : BitVec 50) (i2L : BitVec 10) :
    Statement (.pkg155 i0 i1 i2L) := of_package rfl rfl
theorem pkg156 (i0 : BitVec 60) (i1 : BitVec 60) :
    Statement (.pkg156 i0 i1) := of_package rfl rfl
theorem i30Popc0 (rest : BitVec 27) : Statement (.i30Popc0 rest) := of_other (fun _ h => nomatch h) rfl
theorem i30Popc1 (rest : BitVec 27) : Statement (.i30Popc1 rest) := of_other (fun _ h => nomatch h) rfl
theorem i30Popc2 (rest : BitVec 27) : Statement (.i30Popc2 rest) := of_other (fun _ h => nomatch h) rfl
theorem i30Popc3 (rest : BitVec 27) : Statement (.i30Popc3 rest) := of_other (fun _ h => nomatch h) rfl
theorem i30Popc4 (rest : BitVec 27) : Statement (.i30Popc4 rest) := of_other (fun _ h => nomatch h) rfl
theorem i30Popc5 (rest : BitVec 27) : Statement (.i30Popc5 rest) := of_other (fun _ h => nomatch h) rfl
theorem i30Popc6 (rest : BitVec 27) : Statement (.i30Popc6 rest) := of_other (fun _ h => nomatch h) rfl
theorem i30Popc7 (rest : BitVec 27) : Statement (.i30Popc7 rest) := of_other (fun _ h => nomatch h) rfl
theorem i40Popc0 (rest : BitVec 37) : Statement (.i40Popc0 rest) := of_other (fun _ h => nomatch h) rfl
theorem i40Popc1 (rest : BitVec 37) : Statement (.i40Popc1 rest) := of_other (fun _ h => nomatch h) rfl
theorem i40Popc2 (rest : BitVec 37) : Statement (.i40Popc2 rest) := of_other (fun _ h => nomatch h) rfl
theorem i40Popc3 (rest : BitVec 37) : Statement (.i40Popc3 rest) := of_other (fun _ h => nomatch h) rfl
theorem i40Popc4 (rest : BitVec 37) : Statement (.i40Popc4 rest) := of_other (fun _ h => nomatch h) rfl
theorem i40Popc5 (rest : BitVec 37) : Statement (.i40Popc5 rest) := of_other (fun _ h => nomatch h) rfl
theorem i40Popc6 (rest : BitVec 37) : Statement (.i40Popc6 rest) := of_other (fun _ h => nomatch h) rfl
theorem i40Popc7 (rest : BitVec 37) : Statement (.i40Popc7 rest) := of_other (fun _ h => nomatch h) rfl
theorem i50Popc0 (rest : BitVec 47) : Statement (.i50Popc0 rest) := of_other (fun _ h => nomatch h) rfl
theorem i50Popc1 (rest : BitVec 47) : Statement (.i50Popc1 rest) := of_other (fun _ h => nomatch h) rfl
theorem i50Popc2 (rest : BitVec 47) : Statement (.i50Popc2 rest) := of_other (fun _ h => nomatch h) rfl
theorem i50Popc3 (rest : BitVec 47) : Statement (.i50Popc3 rest) := of_other (fun _ h => nomatch h) rfl
theorem i50Popc4 (rest : BitVec 47) : Statement (.i50Popc4 rest) := of_other (fun _ h => nomatch h) rfl
theorem i50Popc5 (rest : BitVec 47) : Statement (.i50Popc5 rest) := of_other (fun _ h => nomatch h) rfl
theorem i50Popc6 (rest : BitVec 47) : Statement (.i50Popc6 rest) := of_other (fun _ h => nomatch h) rfl
theorem i50Popc7 (rest : BitVec 47) : Statement (.i50Popc7 rest) := of_other (fun _ h => nomatch h) rfl
theorem i60Popc0 (rest : BitVec 57) : Statement (.i60Popc0 rest) := of_other (fun _ h => nomatch h) rfl
theorem i60Popc1 (rest : BitVec 57) : Statement (.i60Popc1 rest) := of_other (fun _ h => nomatch h) rfl
theorem i60Popc2 (rest : BitVec 57) : Statement (.i60Popc2 rest) := of_other (fun _ h => nomatch h) rfl
theorem i60Popc3 (rest : BitVec 57) : Statement (.i60Popc3 rest) := of_other (fun _ h => nomatch h) rfl
theorem i60Popc4 (rest : BitVec 57) : Statement (.i60Popc4 rest) := of_other (fun _ h => nomatch h) rfl
theorem i60Popc5 (rest : BitVec 57) : Statement (.i60Popc5 rest) := of_other (fun _ h => nomatch h) rfl
theorem i60Popc6 (rest : BitVec 57) : Statement (.i60Popc6 rest) := of_other (fun _ h => nomatch h) rfl
theorem i60Popc7 (rest : BitVec 57) : Statement (.i60Popc7 rest) := of_other (fun _ h => nomatch h) rfl
theorem aviObtain (o : AviObtain) : Statement (.aviObtain o) := of_other (fun _ h => nomatch h) rfl
theorem aeQuery (o : AeQuery) : Statement (.aeQuery o) := of_other (fun _ h => nomatch h) rfl
theorem integerCarry (o : IntegerCarry) : Statement (.integerCarry o) := of_other (fun _ h => nomatch h) rfl
theorem vector (o : VectorClass) : Statement (.vector o) := of_other (fun _ h => nomatch h) rfl
theorem elementExtract (o : ElementExtract) : Statement (.elementExtract o) := of_other (fun _ h => nomatch h) rfl
theorem elementDeposit (o : ElementDeposit) : Statement (.elementDeposit o) := of_other (fun _ h => nomatch h) rfl
theorem loadWordAddressed (o : LoadWord) : Statement (.loadWordAddressed o) := of_other (fun _ h => nomatch h) rfl
theorem storeWordAddressed (o : StoreWord) : Statement (.storeWordAddressed o) := of_other (fun _ h => nomatch h) rfl
theorem loadOctetAddressed (o : LoadOctet) : Statement (.loadOctetAddressed o) := of_other (fun _ h => nomatch h) rfl
theorem storeOctetAddressed (o : StoreOctet) : Statement (.storeOctetAddressed o) := of_other (fun _ h => nomatch h) rfl
theorem memoryBarrier (o : MemoryBarrier) : Statement (.memoryBarrier o) := of_other (fun _ h => nomatch h) rfl
theorem storeAtomic (o : StoreAtomic) : Statement (.storeAtomic o) := of_other (fun _ h => nomatch h) rfl
theorem controlFlow (o : ControlFlow) : Statement (.controlFlow o) := of_other (fun _ h => nomatch h) rfl
theorem internalInterrupt (o : InternalInterrupt) : Statement (.internalInterrupt o) := of_other (fun _ h => nomatch h) rfl
theorem sendInterrupt (o : SendInterrupt) : Statement (.sendInterrupt o) := of_other (fun _ h => nomatch h) rfl
theorem null (o : NullOp) : Statement (.null o) := of_other (fun _ h => nomatch h) rfl
theorem privilegedState (o : PrivilegedState) : Statement (.privilegedState o) := of_other (fun _ h => nomatch h) rfl

end Sys2Proof.Laws.EncodingShape
end

