-- ==== Sys2Proof/Tests/Slice0.lean ====
section
/-! SUPPORT. Tests from the spec's own vectors, the smoke test of well-formedness, and the witnesses of the statements'
hypotheses. -/

namespace Sys2Proof.Tests

open Sys2Proof Sys2Proof.Machine

/-! ### Helpers -/

/-- An instruction of the fixture of 95_test_vectors.md section 3.1: an extension in AEN 0 on primary operation code 7. -/
def fx (w : InstrWord) (op : Op) : IsetEntry := ⟨w, .extension 0#64 0#64, op⟩

/-- A GPR as an operand. -/
def g (n : Fin 64) : Operand := .reg (.gpr n)

/-- An address that stands in one operand. -/
def ptr (o : Operand) : Address := .sum o (.imm 0#128) 0 0#128

/-- Some instructions of ISET_FIX: NOP, LI g1 1, ADDI g5 g5 1, JMP g6, SVC, ERET, SETEHA g4. -/
def fixture : List IsetEntry := [
  fx (.w30 0x00000007#30) (.null ⟨0⟩),
  fx (.w40 0x004000010F#40) (.scalar ⟨0, .gpr 1, .copy, .imm 1#128, .imm 0#128⟩),
  fx (.w40 0x0040014587#40) (.integerCarry ⟨0, .gpr 5, .sum, g 5, .imm 1#128, none⟩),
  fx (.w30 0x0001803F#30) (.controlFlow ⟨0, .always, ptr (g 6)⟩),
  fx (.w30 0x0000004F#30) (.internalInterrupt ⟨0, 1⟩),
  fx (.w30 0x00000057#30) (.privilegedState ⟨.exceptionReturn 1⟩),
  fx (.w30 0x00010067#30) (.privilegedState ⟨.setEha 1 (g 4)⟩)]

/-- The common start state of V-ST: OPL 1, EHA[1] = 0x100, XIE 1, nothing pending; IHA[1] = 0x200 as in V-IE. -/
def start : State :=
  { State.boot { iset := fixture } [] with eha := [(1, 0x100#128)], iha := [(1, 0x200#128)], xie := true }

/-- Words placed in memory. -/
def holding (s : State) (l : List (Nat × Word)) : State :=
  s.setMem (l.foldl (fun m p => Memory.writeWord m p.1 p.2) s.mem)

/-- The state at a place in a package, entered in a given way. -/
def place (s : State) (a : Word) (k : Fin 4) (e : Entry) : State := s.setSequence a k e

/-- The next state of a step, if there is one. -/
def stepped (s : State) : Option State :=
  match step s with
  | .next t => some t
  | _ => none

/-- The next state of an instruction, if there is one. -/
def did (i : Instr) (s : State) : Option State :=
  match exec i s with
  | .next t => some t
  | _ => none

/-- Where a state stands. -/
def stands (t : State) : Word × Fin 4 × Entry := (t.ipmar, t.iidx, t.entry)

/-- What exception entry leaves: ESAVE[1], OPL, XIE and where the machine stands. -/
def trapped (t : State) : ExcSave × Nat × Bool × Word × Fin 4 × Entry :=
  (t.esaveAt 1, t.opl, t.xie, stands t)

/-- The package of four NOPs of V-ST. -/
def good : Word := 0x0000001C00000070000001C000000742#128

/-- ST10's package: three NOPs and the low 30 bits of ADDI g5, g5, 1. -/
def leading : Word := 0x0005161C00000070000001C000000743#128

/-- ST13's package: T = 0x001, a NOP, LI g1 1, LI g2 2. -/
def trailing : Word := 0x008000020F004000010F0000001C0108#128

/-! ### Well-formedness: an ill-formed term for each check -/

theorem test_wf_zero_10 : (Instr.pkg2 0#10 0#30 0#30 0#40 1#10).wf = false := rfl
theorem test_wf_zero_20 : (Instr.pkg0 0#10 0#30 0#30 0#30 0x80000#20).wf = false := rfl
/-- Every package row with a Zero sub-field refuses it nonzero; two of the last rows. -/
theorem test_wf_zero_last : (Instr.pkg152 0#60 0#40 1#20).wf = false ∧ (Instr.pkg154 0#60 0#50 1#10).wf = false := ⟨rfl, rfl⟩
theorem test_wf_load_size : (Instr.loadOctetAddressed ⟨0, .word, .sgpr 3, .zero, ptr (g 0)⟩).wf = false := rfl
theorem test_wf_store_size : (Instr.storeOctetAddressed ⟨0, .word, .srnr 3, ptr (g 0)⟩).wf = false := rfl
theorem test_wf_atomic_word : (Instr.storeAtomic ⟨0, .sgpr 1, .word (ptr (g 0)), 0, none⟩).wf = false := rfl
theorem test_wf_atomic_octets : (Instr.storeAtomic ⟨0, .sgpr 1, .octets .word (ptr (g 0)), 0, none⟩).wf = false := rfl
/-- EHA, ESAVE and exception returns exist for levels from 1 (R40, R42). -/
theorem test_wf_level_zero :
    [PrivOp.setEha 0 (g 0), .readEsave 0 .ceid (.gpr 0), .writeEsave 0 .ceid (g 0), .exceptionReturn 0].map
      (fun op => (Instr.privilegedState ⟨op⟩).wf) = [false, false, false, false] := rfl
/-- A report that cannot tell its outcomes apart, one of a bit that the register has not, and a composite instruction that names a
value it has not. -/
theorem test_wf_reports :
    (Instr.aeQuery ⟨0, g 1, g 2, .register (.sgpr 2) 1#128 0x10000000000000001#128⟩).wf = false ∧
    (Instr.aeQuery ⟨0, g 1, g 2, .bit (.sgpr 2) 64⟩).wf = false ∧
    (Instr.storeAtomic ⟨0, .gpr 1, .word (ptr (g 0)), 0, some (.register (.gpr 2) 1#128 1#128)⟩).wf = false ∧
    (Op.composite ⟨0, false, [g 1], [⟨none, .write (.gpr 2) 1⟩]⟩).wf = false ∧
    (Op.composite ⟨0, false, [g 1], [⟨some (1, true), .write (.gpr 2) 0⟩]⟩).wf = false ∧
    (Op.composite ⟨1, false, [g 1], [⟨none, .writePriv (.eha 0) 0⟩]⟩).wf = false ∧
    (Op.composite ⟨1, false, [], [⟨none, .exceptionReturn 0⟩]⟩).wf = false := by decide
/-- UNALIGNED ELEMENT SELECT only in an element instruction, and none of those touches memory (R242, R243); an internal interrupt only
from level 0 (R272). -/
theorem test_wf_rules_of_families :
    (Op.composite ⟨0, false, [g 1], [⟨none, .unalignedSelect⟩]⟩).wf = false ∧
    (Op.composite ⟨0, true, [g 1], [⟨none, .unalignedSelect⟩, ⟨none, .load .octet 0⟩]⟩).wf = false ∧
    (Op.composite ⟨0, true, [g 1], [⟨some (0, true), .unalignedSelect⟩, ⟨none, .write (.gpr 2) 0⟩]⟩).wf = true ∧
    (Op.composite ⟨1, false, [], [⟨none, .internalInterrupt 1⟩]⟩).wf = false ∧
    (Op.composite ⟨0, false, [], [⟨none, .enforceCoherence⟩, ⟨none, .internalInterrupt 1⟩]⟩).wf = false ∧
    (Instr.internalInterrupt ⟨1, 1⟩).wf = false ∧ (Op.internalInterrupt ⟨1, 1⟩).wf = false := by decide
theorem test_wf_ceid_unique : (({ invalidInstruction := 1 } : CeidMap)).wf = false := by decide
/-- An implementation with no address bits, too many of them, no privileged level, an AVI of 2, an exception level or an
instruction above PL_MAX is none. -/
theorem test_wf_impl :
    [({ nMem := 0 } : Impl), { nMem := 129 }, { nProc := 0 }, { nAgent := 129 }, { plMax := 0 }, { avi := 2#64 },
      { levels := { unalignedElementSelect := 2 } }, { levels := { invalidInstruction := 0 } },
      { iset := [fx (.w30 7#30) (.null ⟨2⟩)] }, { iset := [fx (.w30 7#30) (.internalInterrupt ⟨0, 2⟩)] },
      { iset := [fx (.w30 7#30) (.privilegedState ⟨.setIha 2 (g 0)⟩)] }].map Impl.wf =
    [false, false, false, false, false, false, false, false, false, false, false] := by decide
/-- No processor, no agent; an agent with no address bits, or more than the system; a level of INSUFFICIENT PRIVILEGE above PL_MAX; state and accesses that do not exist; a base instruction of
level 2; privileged state or a sender in the base architecture, or by an extension that is not reported; two lines for one word. -/
theorem test_wf_impl_tables :
    [({ nProcs := 0 } : Impl), { nAgents := 0 }, { agentBits := [(0, 0)] }, { nMem := 32, agentBits := [(0, 33)] }, { levels := { insufficientPrivilege := [(0, 2)] } },
      { iset := [fx (.w30 7#30) (.privilegedState ⟨.setEha 0 (g 0)⟩)] },
      { iset := [fx (.w30 7#30) (.loadOctetAddressed ⟨0, .word, .sgpr 3, .zero, ptr (g 0)⟩)] },
      { plMax := 2, iset := [⟨.w30 1#30, .base, .null ⟨2⟩⟩] },
      { iset := [⟨.w30 1#30, .base, .privilegedState ⟨.setXie true⟩⟩] },
      { iset := [⟨.w30 7#30, .extension 2#64 0#64, .sendInterrupt ⟨.agent, g 0⟩⟩] },
      { iset := [⟨.w30 1#30, .base, .composite ⟨1, false, [], [⟨none, .readPriv .opl⟩]⟩⟩] },
      { iset := [fx (.w30 7#30) (.composite ⟨1, false, [], [⟨none, .interruptReturn 2⟩]⟩)] },
      { iset := [fx (.w30 7#30) (.null ⟨0⟩), fx (.w30 7#30) (.null ⟨1⟩)] }].map Impl.wf =
    [false, false, false, false, false, false, false, false, false, false, false, false, false] := by decide
/-- A standard extension on a base code: not where a base instruction of that length uses the code (R204), and for privileged state
not at all (R275). -/
theorem test_recognised_base_code :
    (let ae : IsetEntry := ⟨.w30 9#30, .extension 1#64 0#64, .null ⟨0⟩⟩
     let base : IsetEntry := ⟨.w30 1#30, .base, .null ⟨1⟩⟩
     (recognised { iset := [ae], aeSet := [(1#64, 0#64)] } ae,
      recognised { iset := [ae, base], aeSet := [(1#64, 0#64)] } ae,
      recognised { aeSet := [(1#64, 0#64)] } ⟨.w30 9#30, .extension 1#64 0#64, .privilegedState ⟨.setXie true⟩⟩) =
      (true, false, false)) := by decide
theorem test_wf_default : (({} : Impl)).wf = true ∧ ({ iset := fixture } : Impl).wf = true := by decide

/-! ### Packages: V-ST -/

/-- ST1. -/
theorem test_ST1 : (stepped (place (holding start [(0x40, 0xABCDEF9D#128)]) 0x40#128 0 .transfer)).map trapped =
    some (⟨1, 0x40#128, 0, 4⟩, 1, false, 0x100#128, 0, .transfer) := rfl
/-- ST3: format 70 with Z = 1. -/
theorem test_ST3 :
    (stepped (place (holding start [(0x40, 0x00001000000000F0000001C000000746#128)]) 0x40#128 0 .transfer)).map trapped =
    some (⟨1, 0x40#128, 0, 3⟩, 1, false, 0x100#128, 0, .transfer) := rfl
/-- ST5: T of 10 bits entered sequentially after a package without a leading part. -/
theorem test_ST5 :
    (stepped (place (holding start [(0x41, 0x008000020F004000010F0000001FFF08#128)]) 0x41#128 0
      (.sequential .none))).map trapped = some (⟨1, 0x41#128, 0, 5⟩, 1, false, 0x100#128, 0, .transfer) := rfl
/-- ST6: the same after a transfer runs its NOP. -/
theorem test_ST6 :
    (stepped (place (holding start [(0x41, 0x008000020F004000010F0000001FFF08#128)]) 0x41#128 0 .transfer)).map stands =
    some (0x41#128, 1, .transfer) := rfl
/-- ST8: agree(50, 10). -/
theorem test_ST8 :
    (stepped (place (holding start [(0x41, 0x008000020F004000010F0000001FFF08#128)]) 0x41#128 0
      (.sequential .fifty))).map stands = some (0x41#128, 1, .sequential .fifty) := rfl
/-- ST9: 50 + 20 = 70. -/
theorem test_ST9 :
    (stepped (place (holding start [(0x41, 0x00000000070000001C00000070000025#128)]) 0x41#128 0
      (.sequential .fifty))).map trapped = some (⟨1, 0x41#128, 0, 5⟩, 1, false, 0x100#128, 0, .transfer) := rfl
/-- ST10: the next package has no trailing part. -/
theorem test_ST10 :
    (stepped (place (holding start [(0x40, leading), (0x41, good)]) 0x40#128 3 .transfer)).map trapped =
    some (⟨1, 0x40#128, 3, 5⟩, 1, false, 0x100#128, 0, .transfer) := rfl
/-- ST11: the next package has a reserved format. -/
theorem test_ST11 :
    (stepped (place (holding start [(0x40, leading), (0x41, 0x9D#128)]) 0x40#128 3 .transfer)).map trapped =
    some (⟨1, 0x40#128, 3, 5⟩, 1, false, 0x100#128, 0, .transfer) := rfl
/-- ST13: the spanned ADDI. -/
theorem test_ST13 :
    (stepped (place (holding (start.setGpr 5 41#128) [(0x40, leading), (0x41, trailing)]) 0x40#128 3 .transfer)).map
      (fun t => (t.gpr[5], t.cr[5], stands t)) = some (42#128, false, 0x41#128, 0, .sequential .thirty) := by decide
/-- ST14: four instructions of zeros, which the fixture does not decode. -/
theorem test_ST14 :
    (stepped (place (holding (start.setOpl 0) [(0x40, 0x42#128)]) 0x40#128 1 .transfer)).map trapped =
    some (⟨0, 0x40#128, 1, 2⟩, 1, false, 0x100#128, 0, .transfer) := rfl
/-- ST17: the Zero sub-field is checked before the instruction is decoded. -/
theorem test_ST17 :
    (stepped (place (holding start [(0x40, 0xFFFFF000000000000000000000000046#128)]) 0x40#128 0 .transfer)).map trapped =
    some (⟨1, 0x40#128, 0, 3⟩, 1, false, 0x100#128, 0, .transfer) := rfl
/-- ST18: ERET at OPL 0. -/
theorem test_ST18 :
    (stepped (place (holding (start.setOpl 0) [(0x40, 0x0000001C00000070000001C000005742#128)]) 0x40#128 0
      .transfer)).map trapped = some (⟨0, 0x40#128, 0, 1⟩, 1, false, 0x100#128, 0, .transfer) := rfl
/-- ST20: the trailing part of the last package is fetched from word 0. -/
theorem test_ST20 :
    (stepped (place (holding (start.setGpr 5 41#128) [(2 ^ 128 - 1, leading), (0, trailing)]) (BitVec.allOnes 128) 3
      .transfer)).map (fun t => (t.gpr[5], stands t)) = some (42#128, 0#128, 0, .sequential .thirty) := rfl
/-- TE4: an IIDX that the package does not have (format 156, two instructions). -/
theorem test_TE4 : step (place (holding start [(0x77, 156#128)]) 0x77#128 2 .transfer) = .refused .noInstructionAtIndex := rfl

/-! ### The named rows: V-NI, V-CW, V-SG, V-EL, V-MR, V-TE, V-IE -/

theorem test_avi : (did (.aviObtain ⟨0, .gpr 3, .zero⟩) start).map (fun t => t.gpr[3]) = some 1#128 := rfl
/-- An SGPR destination takes its half only. -/
theorem test_avi_half :
    (did (.aviObtain ⟨0, .sgpr 7, .keep⟩) (start.setGpr 3 5#128)).map (fun t => t.gpr[3]) = some 0x10000000000000005#128 := rfl
theorem test_ae_query :
    (did (.aeQuery ⟨0, .imm 1#128, .imm 4#128, .register (.gpr 2) 1#128 0#128⟩) (start.setGpr 2 9#128)).map
      (fun t => t.gpr[2]) = some 0#128 := rfl

/-- V-NI: the 128-bit add that carries out; CR[8] and CR[9] are left open. -/
theorem test_carry_add :
    (did (.integerCarry ⟨0, .gpr 4, .sum, g 1, g 2, none⟩) ((start.setGpr 1 (BitVec.allOnes 128)).setGpr 2 1#128)).map
      (fun t => (t.gpr[4], t.cr[4], t.cr[10])) = some (0#128, true, false) := by decide
/-- V-CW with g = 32: CR[64] and CR[65] are zeroed; V-SG: SGPR[7] takes its half and CR[7]. -/
theorem test_carry_writes :
    (let t := ((start.setCr 64 true).setCr 65 true).carryWriteGpr 32 ((1#129 <<< 128) + 0xFFFF#129)
     (t.gpr[32], t.cr[32], t.cr[64], t.cr[65]) = (0xFFFF#128, true, false, false)) ∧
    let t := (start.setGpr 3 0x0F0E0D0C0B0A09080706050403020100#128).carryWriteSgpr 7 ((1#65 <<< 64) + 5#65)
    (t.gpr[3], t.cr[7]) = (0x00000000000000050706050403020100#128, true) := by decide

/-- R233's example: V4, each element decremented, no borrow between elements. -/
theorem test_vector :
    (did (.vector ⟨0, .field 1#2, .gpr 1, .wrappingSum, .gpr 1, .vector (.gpr 2)⟩)
      ((start.setGpr 1 0x00000004000000030000000200000001#128).setGpr 2 (BitVec.allOnes 128))).map (fun t => t.gpr[1]) =
    some 0x00000003000000020000000100000000#128 := rfl
/-- A scalar operand that is also the destination is read once (R234). -/
theorem test_vector_scalar :
    (did (.vector ⟨0, .field 3#2, .gpr 1, .wrappingSum, .gpr 2, .scalarLow (g 1)⟩)
      ((start.setGpr 1 0x01#128).setGpr 2 0x0F0E0D0C0B0A09080706050403020100#128)).map (fun t => t.gpr[1]) =
    some 0x100F0E0D0C0B0A090807060504030201#128 := rfl

/-- V-EL: elem(v, V8, 7); the select as an offset in octets, 14. -/
theorem test_extract :
    (did (.elementExtract ⟨0, .field 2#2, .octetOffset, .gpr 2, .zero, .gpr 1, .imm 14#128⟩)
      (start.setGpr 1 0x0F0E0D0C0B0A09080706050403020100#128)).map (fun t => t.gpr[2]) = some 0x0F0E#128 := rfl
theorem test_extract_unaligned :
    (did (.elementExtract ⟨0, .field 2#2, .octetOffset, .gpr 2, .zero, .gpr 1, .imm 13#128⟩) start).map trapped =
    some (⟨1, 0#128, 0, 6⟩, 1, false, 0x100#128, 0, .transfer) := rfl
/-- V-EL: setelem(v, V4, 2, 0xDEADBEEF). -/
theorem test_deposit :
    (did (.elementDeposit ⟨0, .fixed .v4, .index, .gpr 1, .imm 0xDEADBEEF#128, .imm 2#128⟩)
      (start.setGpr 1 0x0F0E0D0C0B0A09080706050403020100#128)).map (fun t => t.gpr[1]) =
    some 0x0F0E0D0CDEADBEEF0706050403020100#128 := rfl

/-- Word 5 of V-MR. -/
def memory : State := holding start [(5, 0x000102030405060708090A0B0C0D0E0F#128)]

/-- What an octet-addressed read gives. -/
def reads (s : State) (a : Nat) (size : UnitSize) : Option Word := (s.memRead (BitVec.ofNat 128 a) size).map Prod.fst

/-- V-MR, reads. -/
theorem test_memory_reads :
    [reads memory 80 .octet, reads memory 95 .octet, reads memory 82 .biOctet, reads memory 94 .biOctet,
      reads memory 84 .quadrantWord, reads memory 88 .semiWord, reads memory 80 .word, reads memory 81 .octet] =
    [some 0x0F#128, some 0x00#128, some 0x0C0D#128, some 0x0001#128, some 0x08090A0B#128, some 0x0001020304050607#128,
      some 0x000102030405060708090A0B0C0D0E0F#128, some 0x0E#128] := rfl
/-- V-MR, the unaligned reads; V-TR, an address of which N_MEM = 32 bits count. -/
theorem test_memory_unaligned :
    [reads memory 81 .biOctet, reads memory 82 .quadrantWord, reads memory 84 .semiWord, reads memory 88 .word] =
      [none, none, none, none] ∧
    reads { memory with impl := { nMem := 32 } } 0x100000052 .biOctet = some 0x0C0D#128 := ⟨rfl, rfl⟩
theorem test_load_word :
    (did (.loadWordAddressed ⟨0, .rnr 9, ptr (.imm 5#128)⟩) memory).map (fun t => (t.rnr[9], t.trace)) =
    some (0x000102030405060708090A0B0C0D0E0F#128, [⟨.self, .read 5⟩]) := rfl
/-- R253's example, through both addressing schemes. -/
theorem test_store_word :
    (did (.storeWordAddressed ⟨0, .gpr 2, ptr (g 1)⟩)
      ((start.setGpr 1 5#128).setGpr 2 0x000102030405060708090A0B0C0D0E0F#128)).map (fun t => t.octetAt 80) =
    some 0x0F#8 := rfl
theorem test_load_octet_sign :
    (did (.loadOctetAddressed ⟨0, .biOctet, .gpr 4, .sign, ptr (.imm 86#128)⟩)
      (holding start [(5, 0xBEEF000000000000#128)])).map (fun t => t.gpr[4]) =
    some 0xFFFFFFFFFFFFFFFFFFFFFFFFFFFFBEEF#128 := rfl
theorem test_load_octet_unaligned :
    (did (.loadOctetAddressed ⟨0, .biOctet, .gpr 4, .zero, ptr (.imm 81#128)⟩) memory).map
      (fun t => (trapped t, t.trace)) = some ((⟨1, 0#128, 0, 7⟩, 1, false, 0x100#128, 0, .transfer), []) := rfl
/-- R254's example: octet 86 is 0xEF, octet 87 is 0xBE. -/
theorem test_store_octet :
    (did (.storeOctetAddressed ⟨0, .biOctet, .gpr 7, ptr (.imm 86#128)⟩) (start.setGpr 7 0xABCDBEEF#128)).map
      (fun t => Memory.readWord t.mem 5) = some 0x0000000000000000BEEF000000000000#128 := rfl
theorem test_barrier :
    (did (.memoryBarrier ⟨0, BarrierSel.full⟩) start).map (fun t => (t.trace, stands t)) =
    some ([⟨.self, .barrier BarrierSel.full⟩], 1#128, 0, .sequential .none) := rfl
/-- V-NI: STORE ATOMIC to an unbacked location fails, writes nothing and raises nothing. -/
theorem test_store_atomic_unbacked :
    (did (.storeAtomic ⟨0, .gpr 2, .word (ptr (.imm 9#128)), 0, some (.carry 3)⟩)
      ((start.setBacking [⟨9, 9, false⟩]).setCr 3 true)).map (fun t => (t.cr[3], t.mem, t.trace, t.xie)) =
    some (false, [], [], true) := rfl
theorem test_store_atomic_unaligned :
    (did (.storeAtomic ⟨0, .gpr 2, .octets .quadrantWord (ptr (.imm 82#128)), 0, some (.carry 3)⟩) start).map trapped =
    some (⟨1, 0#128, 0, 7⟩, 1, false, 0x100#128, 0, .transfer) := rfl

/-- A report in one bit of a semi-register (R201). -/
theorem test_ae_query_bit :
    (did (.aeQuery ⟨0, .imm 1#128, .imm 4#128, .bit (.sgpr 3) 2⟩)
      { (start.setGpr 1 0xFF0000000000000000#128) with impl := { aeSet := [(1#64, 4#64)] } }).map (fun t => t.gpr[1]) =
    some 0xFF0000000000000000#128 ∧
    (did (.aeQuery ⟨0, .imm 1#128, .imm 4#128, .bit (.sgpr 3) 2⟩) (start.setGpr 1 0xFF0000000000000000#128)).map
      (fun t => t.gpr[1]) = some 0xFB0000000000000000#128 := by decide
/-- R101: a store of what was loaded depends on the load by data; one that stores and addresses by immediates and another register
does not; through a copy it does; after a conditional branch on it, by control. -/
theorem test_dependences :
    let load := Instr.loadWordAddressed ⟨0, .gpr 1, ptr (.imm 5#128)⟩
    let store := fun (r : Fin 64) => Instr.storeWordAddressed ⟨0, .gpr r, ptr (.imm 9#128)⟩
    let copy := fun (s : State) => s.conclude (scalarFlow ⟨0, .gpr 2, .copy, g 1, .imm 0#128⟩)
      (scalarEffect ⟨0, .gpr 2, .copy, g 1, .imm 0#128⟩ s)
    let branch := Instr.controlFlow ⟨0, .nonzero (g 1), ptr (.imm 0x300#128)⟩
    let orders := fun (t : State) => (t.dataDependent 0 1, t.controlDependent 0 1, t.enforced 0 1)
    ((did load start).bind (did (store 1))).map orders = some (true, false, true) ∧
    ((did load start).bind (did (store 3))).map orders = some (false, false, false) ∧
    (((did load start).map copy).bind (did (store 2))).map orders = some (true, false, true) ∧
    (((did load start).bind (did branch)).bind (did (store 3))).map orders = some (false, true, true) := by decide
/-- R258's example, this processor as P1 and an agent as P2: the data write is in P of P1's barrier, the flag write in S; P2's read of
the flag brings P1's writes into P of its barrier, and so its read of the data is in S of P1's. -/
theorem test_barrier_sets :
    let agent := fun (a : ForeignAccess) => applyEvent (.accessed (.agent 0) a)
    let store := fun (wa : Word) => did (.storeWordAddressed ⟨0, .gpr 2, ptr (.imm wa)⟩)
    (((store 5#128 start).bind (did (.memoryBarrier ⟨0, BarrierSel.full⟩))).bind (store 6#128)).map
      (fun t => let u := agent (.readWord 5#128) (agent (.barrier BarrierSel.full) (agent (.readWord 6#128) t))
        (u.barrierBefore 1, u.barrierAfter 1, u.barrierBefore 4)) = some ([0], [2, 5], [0, 2, 3]) := by decide
/-- A selector that orders writes only keeps a later read out of S. -/
theorem test_barrier_selector :
    ((did (.memoryBarrier ⟨0, ⟨true, true, false, true⟩⟩) start).bind
      (did (.loadWordAddressed ⟨0, .gpr 1, ptr (.imm 5#128)⟩))).map (fun t => t.barrierAfter 0) = some [] := by decide
/-- R79: an agent with 8 address bits writes word 5 when it names word 0x105; another names word 0x105. -/
theorem test_agent_address_bits :
    let s := { start with impl := { agentBits := [(0, 8)], nAgents := 2 } }
    let write := fun (k : Nat) => applyEvent (.accessed (.agent k) (.writeWord 0x105#128 7#128 ⟨[], [], []⟩)) s
    (Memory.readWord (write 0).mem 5, Memory.readWord (write 1).mem 5, Memory.readWord (write 1).mem 0x105) =
      (7#128, 0#128, 7#128) := by decide
/-- What `o` does as an instruction of ISET. -/
def composite (o : Composite) (s : State) : State := s.attempt (isetPriv s.impl (.composite o)) compositeFlow (compositeEffect o)
/-- A link: the next package's address to a register, then a transfer. -/
theorem test_composite_link :
    let t := composite ⟨0, false, [.imm 0x300#128, g 1], [⟨none, .write (.gpr 2) 1⟩, ⟨none, .transfer 0⟩]⟩ (start.setGpr 1 7#128)
    (t.gpr[2], stands t) = (7#128, 0x300#128, 0, .transfer) := by decide
/-- A composite instruction that raises an exception after a write leaves the register as it was (R305). -/
theorem test_composite_precise :
    let t := composite ⟨0, false, [.imm 81#128], [⟨none, .write (.gpr 2) 0⟩, ⟨none, .load .biOctet 0⟩]⟩ start
    (t.gpr[2], trapped t) = (0#128, ⟨1, 0#128, 0, 7⟩, 1, false, 0x100#128, 0, .transfer) := by decide
/-- A return that sets XIE from a register; at OPL 0 it takes INSUFFICIENT PRIVILEGE, though its own level is 0. -/
theorem test_composite_return :
    let o : Composite := ⟨0, false, [g 1], [⟨none, .writePriv .xie 0⟩, ⟨none, .exceptionReturn 1⟩]⟩
    let s := ((start.setEsave 1 ⟨0, 0x77#128, 2, 2⟩).setXie false).setGpr 1 1#128
    ((composite o s).opl, (composite o s).xie, stands (composite o s)) = (0, true, 0x77#128, 2, .transfer) ∧
    (composite o (s.setOpl 0)).esaveAt 1 = ⟨0, 0#128, 0, 1⟩ := by decide
/-- R101 and R263, value by value: a load and branch orders later writes after its read, though it reads no register; of two loaded
values each result depends on its own only. -/
theorem test_composite_dependences :
    let store := fun (r : Fin 64) => did (.storeWordAddressed ⟨0, .gpr r, ptr (.imm 9#128)⟩)
    let branch : Composite := ⟨0, false, [.imm 5#128, .imm 0x300#128], [⟨none, .loadWord 0⟩, ⟨some (2, true), .transfer 1⟩]⟩
    let pair : Composite := ⟨0, false, [.imm 5#128, .imm 6#128],
      [⟨none, .loadWord 0⟩, ⟨none, .loadWord 1⟩, ⟨none, .write (.gpr 1) 2⟩, ⟨none, .write (.gpr 2) 3⟩]⟩
    (store 3 (composite branch start)).map (fun t => (t.controlDependent 0 1, t.enforced 0 1)) = some (true, true) ∧
    (store 1 (composite pair start)).map (fun t => (t.dataDependent 0 2, t.dataDependent 1 2)) = some (true, false) ∧
    (store 2 (composite pair start)).map (fun t => (t.dataDependent 0 2, t.dataDependent 1 2)) = some (false, true) := by decide
/-- V-NI: ControlTransfer(0x300); and not taken. -/
theorem test_control_flow :
    (did (.controlFlow ⟨0, .nonzero (g 1), ptr (.imm 0x300#128)⟩) (start.setGpr 1 1#128)).map stands =
      some (0x300#128, 0, .transfer) ∧
    (did (.controlFlow ⟨0, .nonzero (g 1), ptr (.imm 0x300#128)⟩) start).map stands =
      some (1#128, 0, .sequential .none) := ⟨rfl, rfl⟩
/-- IE3: taken although XIE = 0; the package has four instructions and no leading part. -/
theorem test_internal_interrupt :
    (did (.internalInterrupt ⟨0, 1⟩)
      ((((place start 0x20#128 3 .transfer).setShape ⟨4, .none⟩).setXie false).setOpl 0)).map
      (fun t => (t.isaveAt 1, t.xie, t.opl, stands t)) =
    some (⟨0, 0x21#128, 0⟩, false, 1, 0x200#128, 0, .transfer) := rfl
/-- IE1, at the start of a step; the one interrupt pending may be taken: what is done if it is. -/
theorem test_interrupt_entry :
    (let t := ((place start 0x40#128 2 (.sequential .none)).setOpl 0).interruptEntry 1
     (t.isaveAt 1, t.xie, t.opl, stands t)) = (⟨0, 0x40#128, 2⟩, false, 1, 0x200#128, 0, .transfer) := rfl
theorem test_send_interrupt :
    (did (.sendInterrupt ⟨.agent, .imm 7#128⟩) start).map (fun t => (t.outbox, stands t)) =
    some ([⟨.agent, 7#128, 1⟩], 1#128, 0, .sequential .none) := rfl
theorem test_send_interrupt_unprivileged :
    (did (.sendInterrupt ⟨.processor, .imm 7#128⟩) (start.setOpl 0)).map (fun t => (t.outbox, t.esaveAt 1)) =
    some ([], ⟨0, 0#128, 0, 1⟩) := rfl
theorem test_null :
    (did (.null ⟨0⟩) ((place start 8#128 1 .transfer).setShape ⟨3, .twenty⟩)).map stands = some (8#128, 2, .transfer) := rfl
/-- ST19: the increment wraps. -/
theorem test_null_wraps :
    (did (.null ⟨0⟩) ((place start (BitVec.allOnes 128) 3 .transfer).setShape ⟨4, .none⟩)).map stands =
    some (0#128, 0, .sequential .none) := rfl
/-- TE1. -/
theorem test_trap_entry :
    trapped (((place start 0x77#128 2 (.sequential .ten)).setOpl 0).trapEntry .invalidInstruction 1) =
    (⟨0, 0x77#128, 2, 2⟩, 1, false, 0x100#128, 0, .transfer) := rfl
/-- TE3 and IE4. -/
theorem test_returns :
    (did (.privilegedState ⟨.exceptionReturn 1⟩) ((start.setEsave 1 ⟨0, 0x77#128, 2, 2⟩).setXie false)).map
      (fun t => (t.opl, t.xie, stands t)) = some (0, false, 0x77#128, 2, .transfer) ∧
    (did (.privilegedState ⟨.interruptReturn 1⟩) (start.setIsave 1 ⟨0, 0x40#128, 2⟩)).map
      (fun t => (t.opl, t.xie, stands t)) = some (0, true, 0x40#128, 2, .transfer) := ⟨rfl, rfl⟩
theorem test_privileged_registers :
    (did (.privilegedState ⟨.readEsave 1 .ceid (.gpr 12)⟩) (start.setEsave 1 ⟨0, 0x21#128, 3, 7⟩)).map
      (fun t => t.gpr[12]) = some 7#128 ∧
    (did (.privilegedState ⟨.lowerOpl 0 (some (ptr (.imm 0x20#128)))⟩) start).map (fun t => (t.opl, stands t)) =
      some (0, 0x20#128, 0, .transfer) := ⟨rfl, rfl⟩
/-- A program's first instruction after reset: withFetchWord places it, the next step runs it. ISET is empty at reset, so an
instruction word takes INVALID INSTRUCTION. -/
theorem test_with_fetch_word :
    decodeTableWord 128 66 = some (.pkg66 0#30 0#30 0#30 0#30) ∧
    (stepped (State.reset.withFetchWord 32 7)).map (fun t => t.esaveAt 1) = some ⟨1, 0#128, 0, 2⟩ := ⟨rfl, rfl⟩
theorem test_placed_words_run :
    step (State.reset.withFetchWord 32 0x57) = exec (.i30Popc7 0xA#27) (State.reset.withFetchWord 32 0x57) ∧
    step (State.reset.withFetchWord 64 0x57) = exec (.i60Popc7 0xA#57) (State.reset.withFetchWord 64 0x57) := ⟨rfl, rfl⟩

/-! ### Decoding: words written out from the tables of R126 and R133 -/

/-- R126, rows 0 to 19: each word holds a different value in every sub-field; the Zero sub-field is zero. -/
theorem test_decode_packages_0_to_19 :
    [0x00000AF37BD5EBCDEF46AF37BCD6B600#128,
      0x9C3FDAF37BD62BCDEF47AF37BCDAB701#128,
      0x00286CB0F54AEBCDEF48AF37BCDEB802#128,
      0xBF686CB0F54B2BCDEF49AF37BCE2B903#128,
      0xBC3874B0ED3B6BCDEF4AAF37BCE6BA04#128,
      0xBC3874B0ED3BABCDEF4BAF37BCEABB05#128,
      0x002BCDEF5DA1B2C3D51EAF37BCEEBC06#128,
      0xC06BCDEF5EA1B2C3D51FAF37BCF2BD07#128,
      0xA1B2C3D531A1B2C3D520AF37BCF6BE08#128,
      0xA1B2C3D532A1B2C3D521AF37BCFABF09#128,
      0xAF37BD86F0E1D2C3B4E2AF37BCFEC00A#128,
      0xAF37BD8AF0E1D2C3B4E3AF37BD02C10B#128,
      0x000009ABCDEF012345A6AF37BD06C20C#128,
      0x9C3F89ABCDEF012345A7AF37BD0AC30D#128,
      0x002BCDEF65AF37BD5286CB0F5456C40E#128,
      0xC26BCDEF66AF37BD5686CB0F545AC50F#128,
      0xA1B2C3D539AF37BD5A86CB0F545EC610#128,
      0xA1B2C3D53AAF37BD5E86CB0F5462C711#128,
      0xAF37BDA686CB0F54AA86CB0F5466C812#128,
      0xAF37BDAA86CB0F54AE86CB0F546AC913#128].map decodePackage =
    [.ok (.pkg0 0x2B6#10 0x2BCDEF35#30 0x2BCDEF46#30 0x2BCDEF57#30 0x0#20),
      .ok (.pkg1 0x2B7#10 0x2BCDEF36#30 0x2BCDEF47#30 0x2BCDEF58#30 0x9C3FD#20),
      .ok (.pkg2 0x2B8#10 0x2BCDEF37#30 0x2BCDEF48#30 0xA1B2C3D52B#40 0x0#10),
      .ok (.pkg3 0x2B9#10 0x2BCDEF38#30 0x2BCDEF49#30 0xA1B2C3D52C#40 0x2FD#10),
      .ok (.pkg4 0x2BA#10 0x2BCDEF39#30 0x2BCDEF4A#30 0x2F0E1D2C3B4ED#50),
      .ok (.pkg5 0x2BB#10 0x2BCDEF3A#30 0x2BCDEF4B#30 0x2F0E1D2C3B4EE#50),
      .ok (.pkg6 0x2BC#10 0x2BCDEF3B#30 0xA1B2C3D51E#40 0x2BCDEF5D#30 0x0#10),
      .ok (.pkg7 0x2BD#10 0x2BCDEF3C#30 0xA1B2C3D51F#40 0x2BCDEF5E#30 0x301#10),
      .ok (.pkg8 0x2BE#10 0x2BCDEF3D#30 0xA1B2C3D520#40 0xA1B2C3D531#40),
      .ok (.pkg9 0x2BF#10 0x2BCDEF3E#30 0xA1B2C3D521#40 0xA1B2C3D532#40),
      .ok (.pkg10 0x2C0#10 0x2BCDEF3F#30 0x2F0E1D2C3B4E2#50 0x2BCDEF61#30),
      .ok (.pkg11 0x2C1#10 0x2BCDEF40#30 0x2F0E1D2C3B4E3#50 0x2BCDEF62#30),
      .ok (.pkg12 0x2C2#10 0x2BCDEF41#30 0x9ABCDEF012345A6#60 0x0#20),
      .ok (.pkg13 0x2C3#10 0x2BCDEF42#30 0x9ABCDEF012345A7#60 0x9C3F8#20),
      .ok (.pkg14 0x2C4#10 0xA1B2C3D515#40 0x2BCDEF54#30 0x2BCDEF65#30 0x0#10),
      .ok (.pkg15 0x2C5#10 0xA1B2C3D516#40 0x2BCDEF55#30 0x2BCDEF66#30 0x309#10),
      .ok (.pkg16 0x2C6#10 0xA1B2C3D517#40 0x2BCDEF56#30 0xA1B2C3D539#40),
      .ok (.pkg17 0x2C7#10 0xA1B2C3D518#40 0x2BCDEF57#30 0xA1B2C3D53A#40),
      .ok (.pkg18 0x2C8#10 0xA1B2C3D519#40 0xA1B2C3D52A#40 0x2BCDEF69#30),
      .ok (.pkg19 0x2C9#10 0xA1B2C3D51A#40 0xA1B2C3D52B#40 0x2BCDEF6A#30)] := rfl

/-- R126, rows 20 to 39: each word holds a different value in every sub-field; the Zero sub-field is zero. -/
theorem test_decode_packages_20_to_39 :
    [0x00000BC3874B0ED3B286CB0F546ECA14#128,
      0x9C400BC3874B0ED3B686CB0F5472CB15#128,
      0x0026AF37BC048D16C286CB0F5476CC16#128,
      0xC026AF37BC048D16C686CB0F547ACD17#128,
      0xAF37BDBEBCDEF5EBC3874B0ED37ECE18#128,
      0xAF37BDC2BCDEF5FBC3874B0ED382CF19#128,
      0x00000A1B2C3D532BC3874B0ED386D01A#128,
      0x9C406A1B2C3D533BC3874B0ED38AD11B#128,
      0x002F0E1D2C3B4F4BC3874B0ED38ED21C#128,
      0xC1AF0E1D2C3B4F5BC3874B0ED392D31D#128,
      0x9ABCDEF012345B8BC3874B0ED396D41E#128,
      0x00000AF37BD966AF37BC048D16A2D51F#128,
      0x9C40BAF37BD9A6AF37BC048D16A6D620#128,
      0x00286CB0F54E66AF37BC048D16AAD721#128,
      0xC2E86CB0F54EA6AF37BC048D16AED822#128,
      0xBC3874B0ED3EE6AF37BC048D16B2D923#128,
      0xBC3874B0ED3F26AF37BC048D16B6DA24#128,
      0x002BCDEF7CAF37BDAEBCDEF5A9C3DD25#128,
      0xC82BCDEF7DAF37BDB2BCDEF5B9C3DE26#128,
      0xA1B2C3D550AF37BDB6BCDEF5C9C3DF27#128].map decodePackage =
    [.ok (.pkg20 0x2CA#10 0xA1B2C3D51B#40 0x2F0E1D2C3B4EC#50 0x0#20),
      .ok (.pkg21 0x2CB#10 0xA1B2C3D51C#40 0x2F0E1D2C3B4ED#50 0x9C400#20),
      .ok (.pkg22 0x2CC#10 0xA1B2C3D51D#40 0x9ABCDEF012345B0#60 0x0#10),
      .ok (.pkg23 0x2CD#10 0xA1B2C3D51E#40 0x9ABCDEF012345B1#60 0x300#10),
      .ok (.pkg24 0x2CE#10 0x2F0E1D2C3B4DF#50 0x2BCDEF5E#30 0x2BCDEF6F#30),
      .ok (.pkg25 0x2CF#10 0x2F0E1D2C3B4E0#50 0x2BCDEF5F#30 0x2BCDEF70#30),
      .ok (.pkg26 0x2D0#10 0x2F0E1D2C3B4E1#50 0xA1B2C3D532#40 0x0#20),
      .ok (.pkg27 0x2D1#10 0x2F0E1D2C3B4E2#50 0xA1B2C3D533#40 0x9C406#20),
      .ok (.pkg28 0x2D2#10 0x2F0E1D2C3B4E3#50 0x2F0E1D2C3B4F4#50 0x0#10),
      .ok (.pkg29 0x2D3#10 0x2F0E1D2C3B4E4#50 0x2F0E1D2C3B4F5#50 0x306#10),
      .ok (.pkg30 0x2D4#10 0x2F0E1D2C3B4E5#50 0x9ABCDEF012345B8#60),
      .ok (.pkg31 0x2D5#10 0x9ABCDEF012345A8#60 0x2BCDEF65#30 0x0#20),
      .ok (.pkg32 0x2D6#10 0x9ABCDEF012345A9#60 0x2BCDEF66#30 0x9C40B#20),
      .ok (.pkg33 0x2D7#10 0x9ABCDEF012345AA#60 0xA1B2C3D539#40 0x0#10),
      .ok (.pkg34 0x2D8#10 0x9ABCDEF012345AB#60 0xA1B2C3D53A#40 0x30B#10),
      .ok (.pkg35 0x2D9#10 0x9ABCDEF012345AC#60 0x2F0E1D2C3B4FB#50),
      .ok (.pkg36 0x2DA#10 0x9ABCDEF012345AD#60 0x2F0E1D2C3B4FC#50),
      .ok (.pkg37 0x9C3DD#20 0x2BCDEF5A#30 0x2BCDEF6B#30 0x2BCDEF7C#30 0x0#10),
      .ok (.pkg38 0x9C3DE#20 0x2BCDEF5B#30 0x2BCDEF6C#30 0x2BCDEF7D#30 0x320#10),
      .ok (.pkg39 0x9C3DF#20 0x2BCDEF5C#30 0x2BCDEF6D#30 0xA1B2C3D550#40)] := rfl

/-- R126, rows 40 to 59: each word holds a different value in every sub-field; the Zero sub-field is zero. -/
theorem test_decode_packages_40_to_59 :
    [0xA1B2C3D551AF37BDBABCDEF5D9C3E028#128,
      0xAF37BE0286CB0F5506BCDEF5E9C3E129#128,
      0xAF37BE0686CB0F550ABCDEF5F9C3E22A#128,
      0x00000BC3874B0ED40EBCDEF609C3E32B#128,
      0x9C417BC3874B0ED412BCDEF619C3E42C#128,
      0x0026AF37BC048D171EBCDEF629C3E52D#128,
      0xC5E6AF37BC048D1722BCDEF639C3E62E#128,
      0xAF37BE1ABCDEF75A1B2C3D5369C3E72F#128,
      0xAF37BE1EBCDEF76A1B2C3D5379C3E830#128,
      0x00000A1B2C3D549A1B2C3D5389C3E931#128,
      0x9C41DA1B2C3D54AA1B2C3D5399C3EA32#128,
      0x002F0E1D2C3B50BA1B2C3D53A9C3EB33#128,
      0xC76F0E1D2C3B50CA1B2C3D53B9C3EC34#128,
      0x9ABCDEF012345CFA1B2C3D53C9C3ED35#128,
      0x00000AF37BDF2F0E1D2C3B4FD9C3EE36#128,
      0x9C422AF37BDF6F0E1D2C3B4FE9C3EF37#128,
      0x00286CB0F5542F0E1D2C3B4FF9C3F038#128,
      0xC8A86CB0F5546F0E1D2C3B5009C3F139#128,
      0xBC3874B0ED44AF0E1D2C3B5019C3F23A#128,
      0xBC3874B0ED44EF0E1D2C3B5029C3F33B#128].map decodePackage =
    [.ok (.pkg40 0x9C3E0#20 0x2BCDEF5D#30 0x2BCDEF6E#30 0xA1B2C3D551#40),
      .ok (.pkg41 0x9C3E1#20 0x2BCDEF5E#30 0xA1B2C3D541#40 0x2BCDEF80#30),
      .ok (.pkg42 0x9C3E2#20 0x2BCDEF5F#30 0xA1B2C3D542#40 0x2BCDEF81#30),
      .ok (.pkg43 0x9C3E3#20 0x2BCDEF60#30 0x2F0E1D2C3B503#50 0x0#20),
      .ok (.pkg44 0x9C3E4#20 0x2BCDEF61#30 0x2F0E1D2C3B504#50 0x9C417#20),
      .ok (.pkg45 0x9C3E5#20 0x2BCDEF62#30 0x9ABCDEF012345C7#60 0x0#10),
      .ok (.pkg46 0x9C3E6#20 0x2BCDEF63#30 0x9ABCDEF012345C8#60 0x317#10),
      .ok (.pkg47 0x9C3E7#20 0xA1B2C3D536#40 0x2BCDEF75#30 0x2BCDEF86#30),
      .ok (.pkg48 0x9C3E8#20 0xA1B2C3D537#40 0x2BCDEF76#30 0x2BCDEF87#30),
      .ok (.pkg49 0x9C3E9#20 0xA1B2C3D538#40 0xA1B2C3D549#40 0x0#20),
      .ok (.pkg50 0x9C3EA#20 0xA1B2C3D539#40 0xA1B2C3D54A#40 0x9C41D#20),
      .ok (.pkg51 0x9C3EB#20 0xA1B2C3D53A#40 0x2F0E1D2C3B50B#50 0x0#10),
      .ok (.pkg52 0x9C3EC#20 0xA1B2C3D53B#40 0x2F0E1D2C3B50C#50 0x31D#10),
      .ok (.pkg53 0x9C3ED#20 0xA1B2C3D53C#40 0x9ABCDEF012345CF#60),
      .ok (.pkg54 0x9C3EE#20 0x2F0E1D2C3B4FD#50 0x2BCDEF7C#30 0x0#20),
      .ok (.pkg55 0x9C3EF#20 0x2F0E1D2C3B4FE#50 0x2BCDEF7D#30 0x9C422#20),
      .ok (.pkg56 0x9C3F0#20 0x2F0E1D2C3B4FF#50 0xA1B2C3D550#40 0x0#10),
      .ok (.pkg57 0x9C3F1#20 0x2F0E1D2C3B500#50 0xA1B2C3D551#40 0x322#10),
      .ok (.pkg58 0x9C3F2#20 0x2F0E1D2C3B501#50 0x2F0E1D2C3B512#50),
      .ok (.pkg59 0x9C3F3#20 0x2F0E1D2C3B502#50 0x2F0E1D2C3B513#50)] := rfl

/-- R126, rows 60 to 79: each word holds a different value in every sub-field; the Zero sub-field is zero. -/
theorem test_decode_packages_60_to_79 :
    [0x002BCDEF829ABCDEF012345C59C3F43C#128,
      0xC9ABCDEF839ABCDEF012345C69C3F53D#128,
      0xA1B2C3D5569ABCDEF012345C79C3F63E#128,
      0xA1B2C3D5579ABCDEF012345C89C3F73F#128,
      0xAF37BE5EBCDEF86AF37BDD6BCDEF6440#128,
      0xAF37BE62BCDEF87AF37BDDABCDEF6541#128,
      0xAF37BEAABCDEF99AF37BE22BCDEF7742#128,
      0xAF37BEAEBCDEF9AAF37BE26BCDEF7843#128,
      0x00000A1B2C3D55CAF37BDE6BCDEF6844#128,
      0x9C430A1B2C3D55DAF37BDEABCDEF6945#128,
      0x00000A1B2C3D56FAF37BE32BCDEF7B46#128,
      0x9C443A1B2C3D570AF37BE36BCDEF7C47#128,
      0x002F0E1D2C3B520AF37BDF6BCDEF6C48#128,
      0xCCAF0E1D2C3B521AF37BDFABCDEF6D49#128,
      0x002F0E1D2C3B533AF37BE42BCDEF7F4A#128,
      0xD16F0E1D2C3B534AF37BE46BCDEF804B#128,
      0x9ABCDEF012345E6AF37BE06BCDEF704C#128,
      0x9ABCDEF012345F8AF37BE4EBCDEF824D#128,
      0x00000AF37BE5286CB0F5556BCDEF724E#128,
      0x9C43AAF37BE5686CB0F555ABCDEF734F#128].map decodePackage =
    [.ok (.pkg60 0x9C3F4#20 0x9ABCDEF012345C5#60 0x2BCDEF82#30 0x0#10),
      .ok (.pkg61 0x9C3F5#20 0x9ABCDEF012345C6#60 0x2BCDEF83#30 0x326#10),
      .ok (.pkg62 0x9C3F6#20 0x9ABCDEF012345C7#60 0xA1B2C3D556#40),
      .ok (.pkg63 0x9C3F7#20 0x9ABCDEF012345C8#60 0xA1B2C3D557#40),
      .ok (.pkg64 0x2BCDEF64#30 0x2BCDEF75#30 0x2BCDEF86#30 0x2BCDEF97#30),
      .ok (.pkg65 0x2BCDEF65#30 0x2BCDEF76#30 0x2BCDEF87#30 0x2BCDEF98#30),
      .ok (.pkg66 0x2BCDEF77#30 0x2BCDEF88#30 0x2BCDEF99#30 0x2BCDEFAA#30),
      .ok (.pkg67 0x2BCDEF78#30 0x2BCDEF89#30 0x2BCDEF9A#30 0x2BCDEFAB#30),
      .ok (.pkg68 0x2BCDEF68#30 0x2BCDEF79#30 0xA1B2C3D55C#40 0x0#20),
      .ok (.pkg69 0x2BCDEF69#30 0x2BCDEF7A#30 0xA1B2C3D55D#40 0x9C430#20),
      .ok (.pkg70 0x2BCDEF7B#30 0x2BCDEF8C#30 0xA1B2C3D56F#40 0x0#20),
      .ok (.pkg71 0x2BCDEF7C#30 0x2BCDEF8D#30 0xA1B2C3D570#40 0x9C443#20),
      .ok (.pkg72 0x2BCDEF6C#30 0x2BCDEF7D#30 0x2F0E1D2C3B520#50 0x0#10),
      .ok (.pkg73 0x2BCDEF6D#30 0x2BCDEF7E#30 0x2F0E1D2C3B521#50 0x332#10),
      .ok (.pkg74 0x2BCDEF7F#30 0x2BCDEF90#30 0x2F0E1D2C3B533#50 0x0#10),
      .ok (.pkg75 0x2BCDEF80#30 0x2BCDEF91#30 0x2F0E1D2C3B534#50 0x345#10),
      .ok (.pkg76 0x2BCDEF70#30 0x2BCDEF81#30 0x9ABCDEF012345E6#60),
      .ok (.pkg77 0x2BCDEF82#30 0x2BCDEF93#30 0x9ABCDEF012345F8#60),
      .ok (.pkg78 0x2BCDEF72#30 0xA1B2C3D555#40 0x2BCDEF94#30 0x0#20),
      .ok (.pkg79 0x2BCDEF73#30 0xA1B2C3D556#40 0x2BCDEF95#30 0x9C43A#20)] := rfl

/-- R126, rows 80 to 99: each word holds a different value in every sub-field; the Zero sub-field is zero. -/
theorem test_decode_packages_80_to_99 :
    [0x00000AF37BE9E86CB0F55A2BCDEF8550#128,
      0x9C44DAF37BEA286CB0F55A6BCDEF8651#128,
      0x00286CB0F55AA86CB0F5566BCDEF7652#128,
      0xCF286CB0F55AE86CB0F556ABCDEF7753#128,
      0x00286CB0F55F686CB0F55B2BCDEF8954#128,
      0xD3E86CB0F55FA86CB0F55B6BCDEF8A55#128,
      0xBC3874B0ED4BA86CB0F5576BCDEF7A56#128,
      0xBC3874B0ED4BE86CB0F557ABCDEF7B57#128,
      0xBC3874B0ED50686CB0F55C2BCDEF8D58#128,
      0xBC3874B0ED50A86CB0F55C6BCDEF8E59#128,
      0x002BCDEFA0BC3874B0ED486BCDEF7E5A#128,
      0xD12BCDEFA1BC3874B0ED48ABCDEF7F5B#128,
      0x002BCDEFB3BC3874B0ED4D2BCDEF915C#128,
      0xD5EBCDEFB4BC3874B0ED4D6BCDEF925D#128,
      0xA1B2C3D576BC3874B0ED496BCDEF825E#128,
      0xA1B2C3D577BC3874B0ED49ABCDEF835F#128,
      0xA1B2C3D589BC3874B0ED4E2BCDEF9560#128,
      0xA1B2C3D58ABC3874B0ED4E6BCDEF9661#128,
      0xAF37BEA26AF37BC048D17AEBCDEF8662#128,
      0xAF37BEA66AF37BC048D17B2BCDEF8763#128].map decodePackage =
    [.ok (.pkg80 0x2BCDEF85#30 0xA1B2C3D568#40 0x2BCDEFA7#30 0x0#20),
      .ok (.pkg81 0x2BCDEF86#30 0xA1B2C3D569#40 0x2BCDEFA8#30 0x9C44D#20),
      .ok (.pkg82 0x2BCDEF76#30 0xA1B2C3D559#40 0xA1B2C3D56A#40 0x0#10),
      .ok (.pkg83 0x2BCDEF77#30 0xA1B2C3D55A#40 0xA1B2C3D56B#40 0x33C#10),
      .ok (.pkg84 0x2BCDEF89#30 0xA1B2C3D56C#40 0xA1B2C3D57D#40 0x0#10),
      .ok (.pkg85 0x2BCDEF8A#30 0xA1B2C3D56D#40 0xA1B2C3D57E#40 0x34F#10),
      .ok (.pkg86 0x2BCDEF7A#30 0xA1B2C3D55D#40 0x2F0E1D2C3B52E#50),
      .ok (.pkg87 0x2BCDEF7B#30 0xA1B2C3D55E#40 0x2F0E1D2C3B52F#50),
      .ok (.pkg88 0x2BCDEF8D#30 0xA1B2C3D570#40 0x2F0E1D2C3B541#50),
      .ok (.pkg89 0x2BCDEF8E#30 0xA1B2C3D571#40 0x2F0E1D2C3B542#50),
      .ok (.pkg90 0x2BCDEF7E#30 0x2F0E1D2C3B521#50 0x2BCDEFA0#30 0x0#10),
      .ok (.pkg91 0x2BCDEF7F#30 0x2F0E1D2C3B522#50 0x2BCDEFA1#30 0x344#10),
      .ok (.pkg92 0x2BCDEF91#30 0x2F0E1D2C3B534#50 0x2BCDEFB3#30 0x0#10),
      .ok (.pkg93 0x2BCDEF92#30 0x2F0E1D2C3B535#50 0x2BCDEFB4#30 0x357#10),
      .ok (.pkg94 0x2BCDEF82#30 0x2F0E1D2C3B525#50 0xA1B2C3D576#40),
      .ok (.pkg95 0x2BCDEF83#30 0x2F0E1D2C3B526#50 0xA1B2C3D577#40),
      .ok (.pkg96 0x2BCDEF95#30 0x2F0E1D2C3B538#50 0xA1B2C3D589#40),
      .ok (.pkg97 0x2BCDEF96#30 0x2F0E1D2C3B539#50 0xA1B2C3D58A#40),
      .ok (.pkg98 0x2BCDEF86#30 0x9ABCDEF012345EB#60 0x2BCDEFA8#30),
      .ok (.pkg99 0x2BCDEF87#30 0x9ABCDEF012345EC#60 0x2BCDEFA9#30)] := rfl

/-- R126, rows 100 to 119: each word holds a different value in every sub-field; the Zero sub-field is zero. -/
theorem test_decode_packages_100_to_119 :
    [0xAF37BEEE6AF37BC048D17FABCDEF9964#128,
      0xAF37BEF26AF37BC048D17FEBCDEF9A65#128,
      0x00000AF37BEB2BCDEF9BA1B2C3D55C66#128,
      0x9C452AF37BEB6BCDEF9CA1B2C3D55D67#128,
      0x00000AF37BEFEBCDEFAEA1B2C3D56F68#128,
      0x9C465AF37BF02BCDEFAFA1B2C3D57069#128,
      0x00286CB0F560ABCDEF9FA1B2C3D5606A#128,
      0xD5286CB0F560EBCDEFA0A1B2C3D5616B#128,
      0x00286CB0F5656BCDEFB2A1B2C3D5736C#128,
      0xD9E86CB0F565ABCDEFB3A1B2C3D5746D#128,
      0xBC3874B0ED51ABCDEFA3A1B2C3D5646E#128,
      0xBC3874B0ED51EBCDEFA4A1B2C3D5656F#128,
      0xBC3874B0ED566BCDEFB6A1B2C3D57770#128,
      0xBC3874B0ED56ABCDEFB7A1B2C3D57871#128,
      0x002BCDEFB8A1B2C3D579A1B2C3D56872#128,
      0xD72BCDEFB9A1B2C3D57AA1B2C3D56973#128,
      0x002BCDEFCBA1B2C3D58CA1B2C3D57B74#128,
      0xDBEBCDEFCCA1B2C3D58DA1B2C3D57C75#128,
      0xA1B2C3D58EA1B2C3D57DA1B2C3D56C76#128,
      0xA1B2C3D58FA1B2C3D57EA1B2C3D56D77#128].map decodePackage =
    [.ok (.pkg100 0x2BCDEF99#30 0x9ABCDEF012345FE#60 0x2BCDEFBB#30),
      .ok (.pkg101 0x2BCDEF9A#30 0x9ABCDEF012345FF#60 0x2BCDEFBC#30),
      .ok (.pkg102 0xA1B2C3D55C#40 0x2BCDEF9B#30 0x2BCDEFAC#30 0x0#20),
      .ok (.pkg103 0xA1B2C3D55D#40 0x2BCDEF9C#30 0x2BCDEFAD#30 0x9C452#20),
      .ok (.pkg104 0xA1B2C3D56F#40 0x2BCDEFAE#30 0x2BCDEFBF#30 0x0#20),
      .ok (.pkg105 0xA1B2C3D570#40 0x2BCDEFAF#30 0x2BCDEFC0#30 0x9C465#20),
      .ok (.pkg106 0xA1B2C3D560#40 0x2BCDEF9F#30 0xA1B2C3D582#40 0x0#10),
      .ok (.pkg107 0xA1B2C3D561#40 0x2BCDEFA0#30 0xA1B2C3D583#40 0x354#10),
      .ok (.pkg108 0xA1B2C3D573#40 0x2BCDEFB2#30 0xA1B2C3D595#40 0x0#10),
      .ok (.pkg109 0xA1B2C3D574#40 0x2BCDEFB3#30 0xA1B2C3D596#40 0x367#10),
      .ok (.pkg110 0xA1B2C3D564#40 0x2BCDEFA3#30 0x2F0E1D2C3B546#50),
      .ok (.pkg111 0xA1B2C3D565#40 0x2BCDEFA4#30 0x2F0E1D2C3B547#50),
      .ok (.pkg112 0xA1B2C3D577#40 0x2BCDEFB6#30 0x2F0E1D2C3B559#50),
      .ok (.pkg113 0xA1B2C3D578#40 0x2BCDEFB7#30 0x2F0E1D2C3B55A#50),
      .ok (.pkg114 0xA1B2C3D568#40 0xA1B2C3D579#40 0x2BCDEFB8#30 0x0#10),
      .ok (.pkg115 0xA1B2C3D569#40 0xA1B2C3D57A#40 0x2BCDEFB9#30 0x35C#10),
      .ok (.pkg116 0xA1B2C3D57B#40 0xA1B2C3D58C#40 0x2BCDEFCB#30 0x0#10),
      .ok (.pkg117 0xA1B2C3D57C#40 0xA1B2C3D58D#40 0x2BCDEFCC#30 0x36F#10),
      .ok (.pkg118 0xA1B2C3D56C#40 0xA1B2C3D57D#40 0xA1B2C3D58E#40),
      .ok (.pkg119 0xA1B2C3D56D#40 0xA1B2C3D57E#40 0xA1B2C3D58F#40)] := rfl

/-- R126, rows 120 to 139: each word holds a different value in every sub-field; the Zero sub-field is zero. -/
theorem test_decode_packages_120_to_139 :
    [0xA1B2C3D5A1A1B2C3D590A1B2C3D57F78#128,
      0xA1B2C3D5A2A1B2C3D591A1B2C3D58079#128,
      0xAF37BF02F0E1D2C3B541A1B2C3D5707A#128,
      0xAF37BF06F0E1D2C3B542A1B2C3D5717B#128,
      0xAF37BF4EF0E1D2C3B554A1B2C3D5837C#128,
      0xAF37BF52F0E1D2C3B555A1B2C3D5847D#128,
      0x000009ABCDEF01234607A1B2C3D5747E#128,
      0x9C4599ABCDEF01234608A1B2C3D5757F#128,
      0x000009ABCDEF0123461AA1B2C3D58780#128,
      0x9C46C9ABCDEF0123461BA1B2C3D58881#128,
      0x002BCDEFC8AF37BEDEF0E1D2C3B53882#128,
      0xDB2BCDEFC9AF37BEE2F0E1D2C3B53983#128,
      0x002BCDEFDBAF37BF2AF0E1D2C3B54B84#128,
      0xDFEBCDEFDCAF37BF2EF0E1D2C3B54C85#128,
      0xA1B2C3D59EAF37BEEEF0E1D2C3B53C86#128,
      0xA1B2C3D59FAF37BEF2F0E1D2C3B53D87#128,
      0xA1B2C3D5B1AF37BF3AF0E1D2C3B54F88#128,
      0xA1B2C3D5B2AF37BF3EF0E1D2C3B55089#128,
      0xAF37BF4286CB0F5646F0E1D2C3B5408A#128,
      0xAF37BF4686CB0F564AF0E1D2C3B5418B#128].map decodePackage =
    [.ok (.pkg120 0xA1B2C3D57F#40 0xA1B2C3D590#40 0xA1B2C3D5A1#40),
      .ok (.pkg121 0xA1B2C3D580#40 0xA1B2C3D591#40 0xA1B2C3D5A2#40),
      .ok (.pkg122 0xA1B2C3D570#40 0x2F0E1D2C3B541#50 0x2BCDEFC0#30),
      .ok (.pkg123 0xA1B2C3D571#40 0x2F0E1D2C3B542#50 0x2BCDEFC1#30),
      .ok (.pkg124 0xA1B2C3D583#40 0x2F0E1D2C3B554#50 0x2BCDEFD3#30),
      .ok (.pkg125 0xA1B2C3D584#40 0x2F0E1D2C3B555#50 0x2BCDEFD4#30),
      .ok (.pkg126 0xA1B2C3D574#40 0x9ABCDEF01234607#60 0x0#20),
      .ok (.pkg127 0xA1B2C3D575#40 0x9ABCDEF01234608#60 0x9C459#20),
      .ok (.pkg128 0xA1B2C3D587#40 0x9ABCDEF0123461A#60 0x0#20),
      .ok (.pkg129 0xA1B2C3D588#40 0x9ABCDEF0123461B#60 0x9C46C#20),
      .ok (.pkg130 0x2F0E1D2C3B538#50 0x2BCDEFB7#30 0x2BCDEFC8#30 0x0#10),
      .ok (.pkg131 0x2F0E1D2C3B539#50 0x2BCDEFB8#30 0x2BCDEFC9#30 0x36C#10),
      .ok (.pkg132 0x2F0E1D2C3B54B#50 0x2BCDEFCA#30 0x2BCDEFDB#30 0x0#10),
      .ok (.pkg133 0x2F0E1D2C3B54C#50 0x2BCDEFCB#30 0x2BCDEFDC#30 0x37F#10),
      .ok (.pkg134 0x2F0E1D2C3B53C#50 0x2BCDEFBB#30 0xA1B2C3D59E#40),
      .ok (.pkg135 0x2F0E1D2C3B53D#50 0x2BCDEFBC#30 0xA1B2C3D59F#40),
      .ok (.pkg136 0x2F0E1D2C3B54F#50 0x2BCDEFCE#30 0xA1B2C3D5B1#40),
      .ok (.pkg137 0x2F0E1D2C3B550#50 0x2BCDEFCF#30 0xA1B2C3D5B2#40),
      .ok (.pkg138 0x2F0E1D2C3B540#50 0xA1B2C3D591#40 0x2BCDEFD0#30),
      .ok (.pkg139 0x2F0E1D2C3B541#50 0xA1B2C3D592#40 0x2BCDEFD1#30)] := rfl

/-- R126, rows 140 to 156: each word holds a different value in every sub-field; the Zero sub-field is zero. -/
theorem test_decode_packages_140_to_156 :
    [0xAF37BF8E86CB0F5692F0E1D2C3B5538C#128,
      0xAF37BF9286CB0F5696F0E1D2C3B5548D#128,
      0x00000BC3874B0ED556F0E1D2C3B5448E#128,
      0x9C469BC3874B0ED55AF0E1D2C3B5458F#128,
      0x00000BC3874B0ED5A2F0E1D2C3B55790#128,
      0x9C47CBC3874B0ED5A6F0E1D2C3B55891#128,
      0x0026AF37BC048D186EF0E1D2C3B54892#128,
      0xDAE6AF37BC048D1872F0E1D2C3B54993#128,
      0x0026AF37BC048D18BAF0E1D2C3B55B94#128,
      0xDFA6AF37BC048D18BEF0E1D2C3B55C95#128,
      0xAF37BFB6BCDEFDC9ABCDEF0123461F96#128,
      0xAF37BFBABCDEFDD9ABCDEF0123462097#128,
      0x00000A1B2C3D5B09ABCDEF0123462198#128,
      0x9C484A1B2C3D5B19ABCDEF0123462299#128,
      0x002F0E1D2C3B5729ABCDEF012346239A#128,
      0xE12F0E1D2C3B5739ABCDEF012346249B#128,
      0x9ABCDEF012346369ABCDEF012346259C#128].map decodePackage =
    [.ok (.pkg140 0x2F0E1D2C3B553#50 0xA1B2C3D5A4#40 0x2BCDEFE3#30),
      .ok (.pkg141 0x2F0E1D2C3B554#50 0xA1B2C3D5A5#40 0x2BCDEFE4#30),
      .ok (.pkg142 0x2F0E1D2C3B544#50 0x2F0E1D2C3B555#50 0x0#20),
      .ok (.pkg143 0x2F0E1D2C3B545#50 0x2F0E1D2C3B556#50 0x9C469#20),
      .ok (.pkg144 0x2F0E1D2C3B557#50 0x2F0E1D2C3B568#50 0x0#20),
      .ok (.pkg145 0x2F0E1D2C3B558#50 0x2F0E1D2C3B569#50 0x9C47C#20),
      .ok (.pkg146 0x2F0E1D2C3B548#50 0x9ABCDEF0123461B#60 0x0#10),
      .ok (.pkg147 0x2F0E1D2C3B549#50 0x9ABCDEF0123461C#60 0x36B#10),
      .ok (.pkg148 0x2F0E1D2C3B55B#50 0x9ABCDEF0123462E#60 0x0#10),
      .ok (.pkg149 0x2F0E1D2C3B55C#50 0x9ABCDEF0123462F#60 0x37E#10),
      .ok (.pkg150 0x9ABCDEF0123461F#60 0x2BCDEFDC#30 0x2BCDEFED#30),
      .ok (.pkg151 0x9ABCDEF01234620#60 0x2BCDEFDD#30 0x2BCDEFEE#30),
      .ok (.pkg152 0x9ABCDEF01234621#60 0xA1B2C3D5B0#40 0x0#20),
      .ok (.pkg153 0x9ABCDEF01234622#60 0xA1B2C3D5B1#40 0x9C484#20),
      .ok (.pkg154 0x9ABCDEF01234623#60 0x2F0E1D2C3B572#50 0x0#10),
      .ok (.pkg155 0x9ABCDEF01234624#60 0x2F0E1D2C3B573#50 0x384#10),
      .ok (.pkg156 0x9ABCDEF01234625#60 0x9ABCDEF01234636#60)] := rfl

/-- R133: bits 2:0 are the primary operation code of a 30-bit instruction. -/
theorem test_decode_words_30 :
    [.w30 0x2BCDEF10#30,
      .w30 0x2BCDF719#30,
      .w30 0x2BCDFF22#30,
      .w30 0x2BCE072B#30,
      .w30 0x2BCE0F34#30,
      .w30 0x2BCE173D#30,
      .w30 0x2BCE1F46#30,
      .w30 0x2BCE274F#30].map decodeWord =
    [.i30Popc0 0x579BDE2#27,
      .i30Popc1 0x579BEE3#27,
      .i30Popc2 0x579BFE4#27,
      .i30Popc3 0x579C0E5#27,
      .i30Popc4 0x579C1E6#27,
      .i30Popc5 0x579C2E7#27,
      .i30Popc6 0x579C3E8#27,
      .i30Popc7 0x579C4E9#27] := rfl

/-- R133: bits 2:0 are the primary operation code of a 40-bit instruction. -/
theorem test_decode_words_40 :
    [.w40 0xA1B2C3D4E0#40,
      .w40 0xA1B2C3DCE9#40,
      .w40 0xA1B2C3E4F2#40,
      .w40 0xA1B2C3ECFB#40,
      .w40 0xA1B2C3F504#40,
      .w40 0xA1B2C3FD0D#40,
      .w40 0xA1B2C40516#40,
      .w40 0xA1B2C40D1F#40].map decodeWord =
    [.i40Popc0 0x1436587A9C#37,
      .i40Popc1 0x1436587B9D#37,
      .i40Popc2 0x1436587C9E#37,
      .i40Popc3 0x1436587D9F#37,
      .i40Popc4 0x1436587EA0#37,
      .i40Popc5 0x1436587FA1#37,
      .i40Popc6 0x14365880A2#37,
      .i40Popc7 0x14365881A3#37] := rfl

/-- R133: bits 2:0 are the primary operation code of a 50-bit instruction. -/
theorem test_decode_words_50 :
    [.w50 0x2F0E1D2C3B4A0#50,
      .w50 0x2F0E1D2C3BCA9#50,
      .w50 0x2F0E1D2C3C4B2#50,
      .w50 0x2F0E1D2C3CCBB#50,
      .w50 0x2F0E1D2C3D4C4#50,
      .w50 0x2F0E1D2C3DCCD#50,
      .w50 0x2F0E1D2C3E4D6#50,
      .w50 0x2F0E1D2C3ECDF#50].map decodeWord =
    [.i50Popc0 0x5E1C3A587694#47,
      .i50Popc1 0x5E1C3A587795#47,
      .i50Popc2 0x5E1C3A587896#47,
      .i50Popc3 0x5E1C3A587997#47,
      .i50Popc4 0x5E1C3A587A98#47,
      .i50Popc5 0x5E1C3A587B99#47,
      .i50Popc6 0x5E1C3A587C9A#47,
      .i50Popc7 0x5E1C3A587D9B#47] := rfl

/-- R133: bits 2:0 are the primary operation code of a 60-bit instruction. -/
theorem test_decode_words_60 :
    [.w60 0x9ABCDEF01234560#60,
      .w60 0x9ABCDEF01234D69#60,
      .w60 0x9ABCDEF01235572#60,
      .w60 0x9ABCDEF01235D7B#60,
      .w60 0x9ABCDEF01236584#60,
      .w60 0x9ABCDEF01236D8D#60,
      .w60 0x9ABCDEF01237596#60,
      .w60 0x9ABCDEF01237D9F#60].map decodeWord =
    [.i60Popc0 0x13579BDE02468AC#57,
      .i60Popc1 0x13579BDE02469AD#57,
      .i60Popc2 0x13579BDE0246AAE#57,
      .i60Popc3 0x13579BDE0246BAF#57,
      .i60Popc4 0x13579BDE0246CB0#57,
      .i60Popc5 0x13579BDE0246DB1#57,
      .i60Popc6 0x13579BDE0246EB2#57,
      .i60Popc7 0x13579BDE0246FB3#57] := rfl

/-! ### Witnesses: states and operands that meet the hypotheses of each statement together -/

/-- Four NOPs at word 0x40. -/
def atGood : State := place (holding start [(0x40, good)]) 0x40#128 0 .transfer

/-- The sub-fields of `good`. -/
def goodPackage : Package := ⟨.none, [.w30 7#30, .w30 7#30, .w30 7#30, .w30 7#30], .none, .none⟩

/-- The sub-fields of `leading`. -/
def leadingPackage : Package := ⟨.none, [.w30 7#30, .w30 7#30, .w30 7#30], .p30 0x14587#30, .none⟩

/-- `leading` at word 0x40 before its leading part. -/
def atLeading (next : Word) : State := place (holding start [(0x40, leading), (0x41, next)]) 0x40#128 3 .transfer

/-- The fixture's ADDI g5, g5, 1. -/
def addi : IntegerCarry := ⟨0, .gpr 5, .sum, g 5, .imm 1#128, none⟩

theorem witness_DecodeAfterEncode :
    (Instr.pkg156 1#60 2#60).wf = true ∧ encode (.pkg156 1#60 2#60) = some (.package 0x0000000000000020000000000000019C#128) ∧
    (Instr.i30Popc7 0#27).wf = true ∧ encode (.i30Popc7 0#27) = some (.instruction (.w30 7#30)) ∧
    encode (.null ⟨0⟩) = none := ⟨rfl, rfl, rfl, rfl, rfl⟩
theorem witness_EncodeAfterDecode :
    decode (.package good) = .ok (.pkg66 7#30 7#30 7#30 7#30) ∧
    decode (.instruction (.w60 0xFFFFFFFC0003F0F#60)) = .ok (.i60Popc7 0x1FFFFFFF80007E1#57) := ⟨rfl, rfl⟩
theorem witness_PackageFieldsFollowTheTable :
    formatOf 0#128 = some ⟨.ten, [30, 30, 30], .none, 20⟩ ∧ formatOf 156#128 = some ⟨.none, [60, 60], .none, 0⟩ :=
  ⟨rfl, rfl⟩
theorem witness_SpannedPartsJoin :
    joinParts (.p10 1#10) (.p20 1#20) = some (.w30 0x401#30) ∧ joinParts (.p50 1#50) (.p10 0x3FF#10) =
      some (.w60 0xFFC000000000001#60) := ⟨rfl, rfl⟩
theorem witness_StepRunsTheDecodedInstruction :
    NoInterrupt atGood ∧ atGood.isBacked (atGood.wordLocation atGood.ipmar) = true ∧
    atGood.oldContents (atGood.wordLocation atGood.ipmar) = [] ∧
    decodePackage (Memory.readWord atGood.mem (atGood.wordLocation atGood.ipmar)) = .ok (.pkg66 7#30 7#30 7#30 7#30) ∧
    (fetchDecoded atGood).1 = .ok (.pkg66 7#30 7#30 7#30 7#30) := ⟨.inr rfl, rfl, rfl, rfl, rfl⟩
/-- Enough interrupts pending that the free choice takes one. Whether it takes none of few is free. -/
theorem witness_PendingInterruptMayBeTaken :
    let s := start.setXpend (List.replicate (Config.freeChoice start.free + 1) 1)
    s.xie = true ∧ s.xpend ≠ [] ∧ s.xpend[Config.freeChoice s.free]? = some 1 := by
  refine ⟨rfl, by simp [List.replicate], by simp⟩
/-- At both ends of the reserved range. -/
theorem witness_ReservedFormatTraps : ∀ w ∈ [157#128, 255#128],
    let s := place (holding start [(0x40, w)]) 0x40#128 0 .transfer
    NoInterrupt s ∧ BaseLevels s ∧ s.isBacked (s.wordLocation s.ipmar) = true ∧
    s.oldContents (s.wordLocation s.ipmar) = [] ∧
    157 ≤ (Memory.readWord s.mem (s.wordLocation s.ipmar)).toNat % 256 := by
  intro w hw
  simp only [List.mem_cons, List.not_mem_nil, or_false] at hw
  rcases hw with rfl | rfl <;> exact ⟨.inr rfl, rfl, rfl, rfl, by decide⟩
/-- Entered by a transfer and, at its last instruction, sequentially. -/
theorem witness_PackageRunsItsInstruction :
    (Instr.pkg66 7#30 7#30 7#30 7#30).package? = some goodPackage ∧ EntryAllowed atGood goodPackage ∧
    goodPackage.zero.isZero = true ∧ goodPackage.slot atGood.iidx.val = some (.whole (.w30 7#30)) ∧
    isetDecode atGood.impl (.w30 7#30) = some (.null ⟨0⟩) ∧ isetPriv atGood.impl (.null ⟨0⟩) ≤ atGood.opl ∧
    instrOf (.null ⟨0⟩) = some (.null ⟨0⟩) ∧
    EntryAllowed (place atGood 0x40#128 3 (.sequential .none)) goodPackage ∧
    goodPackage.slot (place atGood 0x40#128 3 (.sequential .none)).iidx.val = some (.whole (.w30 7#30)) :=
  ⟨rfl, .inl rfl, rfl, rfl, rfl, by decide, rfl, .inr ⟨.none, rfl, rfl⟩, rfl⟩
theorem witness_EveryRowCompletesWithNull :
    (Instr.pkg66 7#30 7#30 7#30 7#30).package? = some goodPackage ∧ EntryAllowed atGood goodPackage ∧
    goodPackage.zero.isZero = true ∧ goodPackage.slot atGood.iidx.val = some (.whole (.w30 7#30)) ∧
    isetDecode atGood.impl (.w30 7#30) = some (.null ⟨0⟩) ∧ (⟨0⟩ : NullOp).priv ≤ atGood.opl :=
  ⟨rfl, .inl rfl, rfl, rfl, rfl, by decide⟩
theorem witness_SpannedPackageRunsItsInstruction :
    (Instr.pkg67 7#30 7#30 7#30 0x14587#30).package? = some leadingPackage ∧
    EntryAllowed (atLeading trailing) leadingPackage ∧ leadingPackage.zero.isZero = true ∧
    leadingPackage.slot (atLeading trailing).iidx.val = some (.leading (.p30 0x14587#30)) ∧
    joinParts (.p30 0x14587#30) (trailOf ((atLeading trailing).fetch ((atLeading trailing).ipmar + 1#128)).1) =
      some (.w40 0x0040014587#40) ∧
    isetDecode (atLeading trailing).impl (.w40 0x0040014587#40) = some (.integerCarry addi) ∧
    isetPriv (atLeading trailing).impl (.integerCarry addi) ≤ (atLeading trailing).opl ∧
    instrOf (.integerCarry addi) = some (.integerCarry addi) :=
  ⟨rfl, .inl rfl, rfl, rfl, rfl, rfl, by decide, rfl⟩
theorem witness_UncompletedLeadingPartTraps :
    (Instr.pkg67 7#30 7#30 7#30 0x14587#30).package? = some leadingPackage ∧ BaseLevels (atLeading good) ∧
    EntryAllowed (atLeading good) leadingPackage ∧ leadingPackage.zero.isZero = true ∧
    leadingPackage.slot (atLeading good).iidx.val = some (.leading (.p30 0x14587#30)) ∧
    joinParts (.p30 0x14587#30) (trailOf ((atLeading good).fetch ((atLeading good).ipmar + 1#128)).1) = none :=
  ⟨rfl, rfl, .inl rfl, rfl, rfl, rfl⟩
/-- One state for each clause. -/
theorem witness_PackageChecksTrap :
    (Instr.pkg66 7#30 7#30 7#30 7#30).package? = some goodPackage ∧ BaseLevels atGood ∧
    (place atGood 0x40#128 0 (.sequential .forty)).entry = .sequential .forty ∧ agree .forty goodPackage.trail.len = false ∧
    (Instr.pkg126 1#40 1#60 0x80000#20).package? = some ⟨.p40 1#40, [.w60 1#60], .none, .z20 0x80000#20⟩ ∧
    EntryAllowed atGood ⟨.p40 1#40, [.w60 1#60], .none, .z20 0x80000#20⟩ ∧ (ZeroPart.z20 0x80000#20).isZero = false :=
  ⟨rfl, rfl, rfl, rfl, rfl, .inl rfl, rfl⟩
/-- An unrecognised instruction; a recognised one of level 1 at OPL 0. -/
theorem witness_PackageInstructionTraps :
    let p : Package := ⟨.none, [.w30 0#30, .w30 0x57#30, .w30 0#30, .w30 0#30], .none, .none⟩
    (Instr.pkg66 0#30 0x57#30 0#30 0#30).package? = some p ∧ BaseLevels start ∧ EntryAllowed start p ∧
    p.zero.isZero = true ∧ p.slot start.iidx.val = some (.whole (.w30 0#30)) ∧ isetLines start.impl (.w30 0#30) = [] ∧
    p.slot (place (start.setOpl 0) 0#128 1 .transfer).iidx.val = some (.whole (.w30 0x57#30)) ∧
    isetDecode start.impl (.w30 0x57#30) = some (.privilegedState ⟨.exceptionReturn 1⟩) ∧
    (start.setOpl 0).opl < isetPriv start.impl (.privilegedState ⟨.exceptionReturn 1⟩) :=
  ⟨rfl, rfl, .inl rfl, rfl, rfl, rfl, rfl, rfl, by decide⟩
/-- At the first index the package does not have; a table with two lines for one word; a legal table. -/
theorem witness_MissingIndexRefused :
    let p : Package := ⟨.none, [.w60 1#60, .w60 2#60], .none, .none⟩
    (Instr.pkg156 1#60 2#60).package? = some p ∧ EntryAllowed (place start 0#128 2 .transfer) p ∧ p.zero.isZero = true ∧
    p.shape.n ≤ (place start 0#128 2 .transfer).iidx.val ∧
    2 ≤ (isetLines { iset := [fx (.w30 7#30) (.null ⟨0⟩), fx (.w30 7#30) (.null ⟨1⟩)] } (.w30 7#30)).length ∧
    ({ iset := fixture } : Impl).wf = true := ⟨rfl, .inl rfl, rfl, by decide, by decide, by decide⟩
theorem witness_InstructionWordRuns :
    isetDecode start.impl (.w40 0x0040014587#40) = some (.integerCarry addi) ∧
    isetPriv start.impl (.integerCarry addi) ≤ start.opl ∧ instrOf (.integerCarry addi) = some (.integerCarry addi) :=
  ⟨rfl, by decide, rfl⟩
theorem witness_UnrecognisedInstructionTraps : BaseLevels start ∧ isetLines start.impl (.w30 0#30) = [] := ⟨rfl, rfl⟩
/-- With the base levels, and with a level that an extension raised to 3. -/
theorem witness_InsufficientPrivilegeTraps :
    (start.setOpl 0).impl.wf = true ∧ BaseLevels start ∧
    isetDecode (start.setOpl 0).impl (.w30 0x57#30) = some (.privilegedState ⟨.exceptionReturn 1⟩) ∧
    (start.setOpl 0).opl < isetPriv (start.setOpl 0).impl (.privilegedState ⟨.exceptionReturn 1⟩) ∧
    (let c : Impl := { plMax := 3, levels := { insufficientPrivilege := [(0, 3)] }, iset := fixture }
     c.wf = true ∧ c.levelOf 0 .insufficientPrivilege = 3) := ⟨by decide, rfl, by decide, by decide, by decide, by decide⟩
/-- At OPL 0: each clause, and level 0 state, which needs 1. -/
theorem witness_NamedRowsCheckPrivilege :
    instrOf (.null ⟨1⟩) = some (.null ⟨1⟩) ∧ (start.setOpl 0).opl < (Op.null ⟨1⟩).privField ∧
    (start.setOpl 0).opl < (start.setOpl 0).impl.plMax ∧ (start.setOpl 0).opl < max 1 0 ∧ (start.setOpl 0).opl < 1 ∧
    BaseLevels (start.setOpl 0) := ⟨rfl, by decide, by decide, by decide, by decide, rfl⟩
/-- A base instruction on a base code, and an extension's on a reserved code. -/
theorem witness_ReservedCodesNeedAnExtension :
    isetDecode { iset := [⟨.w30 1#30, .base, .null ⟨0⟩⟩] } (.w30 1#30) = some (.null ⟨0⟩) ∧
    isetDecode { iset := [⟨.w30 5#30, .extension 2#64 3#64, .null ⟨0⟩⟩], aeSet := [(2#64, 3#64)] } (.w30 5#30) =
      some (.null ⟨0⟩) := ⟨rfl, rfl⟩
theorem witness_AviObtainCompletes : (⟨0, .gpr 3, .zero⟩ : AviObtain).priv ≤ start.opl := by decide
theorem witness_AeQueryCompletes :
    (Instr.aeQuery ⟨0, g 1, g 2, .bit (.sgpr 3) 63⟩).wf = true ∧
    (⟨0, g 1, g 2, .bit (.sgpr 3) 63⟩ : AeQuery).priv ≤ start.opl := by decide
/-- At both ends of the GPR numbers, and where CR[2g] is the first exclusive one. -/
theorem witness_CarryResultToGpr : ∀ k ∈ [(0 : Fin 64), 32, 63],
    (⟨0, .gpr k, .sum, g 1, g 2, some 127⟩ : IntegerCarry).dst = .gpr k ∧
    (⟨0, .gpr k, .sum, g 1, g 2, some 127⟩ : IntegerCarry).priv ≤ start.opl := by decide
theorem witness_CarryResultToSgpr : ∀ k ∈ [(0 : Fin 128), 127],
    (⟨0, .sgpr k, .difference, g 1, g 2, none⟩ : IntegerCarry).dst = .sgpr k ∧
    (⟨0, .sgpr k, .difference, g 1, g 2, none⟩ : IntegerCarry).priv ≤ start.opl := by decide
theorem witness_VectorCompletes :
    (⟨0, .fixed .v16, .rnr 1, .wrappingSum, .gpr 1, .scalarLow (g 1)⟩ : VectorClass).priv ≤ start.opl ∧ 15 < VecType.v16.count := by
  decide
/-- The last element by number and by octet offset, and a select that names none. -/
theorem witness_ElementExtractCompletes :
    (⟨0, .fixed .v16, .index, .gpr 2, .sign, .gpr 1, .imm 15#128⟩ : ElementExtract).priv ≤ start.opl ∧
    selectElement .index .v16 128 15#128 = .element 15 ∧ selectElement .octetOffset .v8 128 14#128 = .element 7 ∧
    VecType.v16.elemBits * (15 + 1) ≤ (Reg.gpr 1).width ∧ VecType.v8.elemBits * (7 + 1) ≤ (Reg.gpr 1).width ∧
    (14#128).toNat = VecType.v8.elemBits / 8 * 7 ∧ selectElement .index .v16 128 16#128 = .other := by decide
theorem witness_ElementDepositCompletes :
    (⟨0, .fixed .v8, .index, .sgpr 2, g 5, .imm 3#128⟩ : ElementDeposit).priv ≤ start.opl ∧
    selectElement .index .v8 64 3#128 = .element 3 ∧ selectElement .octetOffset .v8 64 6#128 = .element 3 ∧
    VecType.v8.elemBits * (3 + 1) ≤ (Reg.sgpr 2).width ∧ (6#128).toNat = VecType.v8.elemBits / 8 * 3 ∧
    selectElement .index .v8 64 4#128 = .other := by decide
theorem witness_UnalignedSelectTraps :
    BaseLevels start ∧
    (start.value (⟨0, .fixed .v2, .octetOffset, .gpr 2, .zero, .gpr 1, .imm 7#128⟩ : ElementExtract).select).toNat %
      (VecType.v2.elemBits / 8) ≠ 0 ∧
    (start.value (⟨0, .fixed .v8, .octetOffset, .gpr 2, g 1, .imm 1#128⟩ : ElementDeposit).select).toNat %
      (VecType.v8.elemBits / 8) ≠ 0 := ⟨rfl, by decide, by decide⟩
/-- A backed and an unbacked location; the last word location. -/
theorem witness_LoadWordCompletes :
    (⟨0, .gpr 1, ptr (.imm (BitVec.allOnes 128))⟩ : LoadWord).priv ≤ start.opl ∧
    start.isBacked (start.wordLocation (start.address (ptr (.imm (BitVec.allOnes 128))))) = true ∧
    (start.setBacking [⟨9, 9, false⟩]).isBacked 9 = false := by decide
theorem witness_StoreWordCompletes :
    (⟨0, .gpr 1, ptr (.imm 9#128)⟩ : StoreWord).priv ≤ start.opl ∧
    start.isBacked (start.wordLocation (start.address (ptr (.imm 9#128)))) = true ∧
    (start.setBacking [⟨9, 9, false⟩]).isBacked
      ((start.setBacking [⟨9, 9, false⟩]).wordLocation ((start.setBacking [⟨9, 9, false⟩]).address (ptr (.imm 9#128)))) =
      false := by decide
/-- The last unit of a word, whole-register size. -/
theorem witness_LoadOctetCompletes :
    (Instr.loadOctetAddressed ⟨0, .semiWord, .sgpr 127, .zero, ptr (.imm 88#128)⟩).wf = true ∧
    (⟨0, .semiWord, .sgpr 127, .zero, ptr (.imm 88#128)⟩ : LoadOctet).priv ≤ start.opl ∧
    start.octetLocation (start.address (ptr (.imm 88#128))) % UnitSize.semiWord.octets = 0 := by decide
theorem witness_StoreOctetCompletes :
    (Instr.storeOctetAddressed ⟨0, .biOctet, .gpr 7, ptr (.imm 86#128)⟩).wf = true ∧
    (⟨0, .biOctet, .gpr 7, ptr (.imm 86#128)⟩ : StoreOctet).priv ≤ start.opl ∧
    start.octetLocation (start.address (ptr (.imm 86#128))) % UnitSize.biOctet.octets = 0 := by decide
theorem witness_UnalignedAddressTraps :
    BaseLevels start ∧ (⟨0, .biOctet, .gpr 1, .zero, ptr (.imm 81#128)⟩ : LoadOctet).priv ≤ start.opl ∧
    start.octetLocation (start.address (ptr (.imm 81#128))) % UnitSize.biOctet.octets ≠ 0 ∧
    (⟨0, .word, .gpr 1, ptr (.imm 88#128)⟩ : StoreOctet).priv ≤ start.opl ∧
    start.octetLocation (start.address (ptr (.imm 88#128))) % UnitSize.word.octets ≠ 0 ∧
    (⟨0, .gpr 1, .octets .semiWord (ptr (.imm 84#128)), 0, none⟩ : StoreAtomic).target =
      .octets .semiWord (ptr (.imm 84#128)) ∧
    start.octetLocation (start.address (ptr (.imm 84#128))) % UnitSize.semiWord.octets ≠ 0 :=
  ⟨rfl, by decide, by decide, by decide, by decide, rfl, by decide⟩
/-- With an access of this processor and one of an agent after it. -/
theorem witness_MemoryBarrierCompletes :
    (⟨0, BarrierSel.full⟩ : MemoryBarrier).priv ≤ start.opl ∧
    let t := start.note (.barrier BarrierSel.full)
    let u := applyEvent (.accessed (.agent 0) (.readWord 5#128)) (t.note (.read 5))
    u.trace = [⟨.agent 0, .read 5⟩, ⟨.self, .read 5⟩] ++ t.trace ∧ u.event? 1 = some ⟨.self, .read 5⟩ ∧
    u.event? 2 = some ⟨.agent 0, .read 5⟩ := by decide
theorem witness_StoreAtomicCompletes :
    (Instr.storeAtomic ⟨0, .gpr 2, .word (ptr (.imm 9#128)), 0, some (.carry 3)⟩).wf = true ∧
    (⟨0, .gpr 2, .word (ptr (.imm 9#128)), 0, some (.carry 3)⟩ : StoreAtomic).priv ≤ start.opl ∧
    atomicLocation ⟨0, .gpr 2, .word (ptr (.imm 9#128)), 0, some (.carry 3)⟩ start %
      atomicOctets ⟨0, .gpr 2, .word (ptr (.imm 9#128)), 0, some (.carry 3)⟩ = 0 := by decide
/-- The last octet of a word, and the last word that an octet address reaches. -/
theorem witness_LittleEndianViews :
    memory.octetLocation 95#128 % UnitSize.octet.octets = 0 ∧ memory.isBacked (memory.octetLocation 95#128 / 16) = true ∧
    16 * (2 ^ 124 - 1) < 2 ^ memory.impl.nMem ∧ memory.impl.nMem ≤ 128 ∧ memory.isBacked (2 ^ 124 - 1) = true := by decide
/-- Units side by side; the last word, which no octet address reaches; an octet at the top of a word, by both schemes; a location that is
not backed. -/
theorem witness_ReadAfterWrite :
    start.isBacked (start.octetLocation 86#128 / 16) = true ∧
    start.memWrite 86#128 .biOctet 0xBEEF#128 = some (start.store 86 2 0xBEEF) ∧
    start.octetLocation 86#128 + UnitSize.biOctet.octets ≤ start.octetLocation 88#128 ∧
    start.isBacked (start.wordLocation (BitVec.allOnes 128)) = true ∧ 2 ^ 124 ≤ start.wordLocation (BitVec.allOnes 128) ∧
    start.octetLocation 95#128 / 16 = start.wordLocation 5#128 ∧ start.octetLocation 95#128 % UnitSize.octet.octets = 0 ∧
    8 * (start.octetLocation 95#128 % 16) ≤ 127 ∧ 127 < 8 * (start.octetLocation 95#128 % 16) + 8 * UnitSize.octet.octets ∧
    (start.setBacking [⟨9, 9, false⟩]).isBacked (start.wordLocation 9#128) = false ∧
    (start.setBacking [⟨9, 9, false⟩]).isBacked (start.octetLocation 144#128 / 16) = false := by
  refine ⟨rfl, rfl, ?_⟩; decide
theorem witness_FetchAfterStore :
    start.isBacked (start.wordLocation 5#128) = true ∧
    ({ start with impl := { ifetchCoherent := true } } : State).isBacked 5 = true ∧
    ({ start with impl := { ifetchCoherent := true } } : State).impl.ifetchCoherent = true := by decide
/-- A record: a read and a write of one location and a write of another that depends on the read, a barrier, and a write of an agent. -/
theorem witness_ProgramOrdersEnforced :
    let s := (((((start.note (.read 5)).note (.write 5)).note (.write 6)).setDepend
      { writes := [(2, ⟨[], [0], []⟩)] }).note (.barrier .full)).noteBy (.agent 0) (.write 6)
    s.event? 0 = some ⟨.self, .read 5⟩ ∧ s.event? 1 = some ⟨.self, .write 5⟩ ∧ s.event? 2 = some ⟨.self, .write 6⟩ ∧
    s.event? 3 = some ⟨.self, .barrier .full⟩ ∧ s.event? 4 = some ⟨.agent 0, .write 6⟩ ∧ s.dependent 0 2 = true ∧
    s.dependent 0 1 = false ∧ s.impl.stronger = {} := by decide
theorem witness_DependentWritesOrdered :
    LoadsFrom (.loadWordAddressed ⟨0, .gpr 1, ptr (.imm 5#128)⟩) (.gpr 1) (ptr (.imm 5#128)) start ∧
    LoadsFrom (.loadOctetAddressed ⟨0, .semiWord, .sgpr 2, .zero, ptr (.imm 88#128)⟩) (.sgpr 2) (ptr (.imm 88#128)) start ∧
    StoresTo (.storeWordAddressed ⟨0, .gpr 1, ptr (g 1)⟩) (.gpr 1) (ptr (g 1)) start ∧
    StoresTo (.storeOctetAddressed ⟨0, .octet, .sgpr 3, .sum (.imm 0#128) (g 1) 2 0#128⟩) (.sgpr 3)
      (.sum (.imm 0#128) (g 1) 2 0#128) start ∧
    Overlaps (.gpr 1) (.sgpr 3) ∧ AddressReads (.gpr 1) (.sum (.imm 0#128) (g 1) 2 0#128) ∧
    ComputesFrom (.integerCarry ⟨0, .sgpr 9, .sum, .imm 1#128, g 1, none⟩) (.gpr 1) (.sgpr 9) start ∧
    ComputesFrom (.vector ⟨0, .fixed .v2, .rnr 2, .wrappingSum, .gpr 3, .scalarLow (g 1)⟩) (.gpr 1) (.rnr 2) start ∧
    ComputesFrom (.elementExtract ⟨0, .fixed .v2, .index, .gpr 4, .zero, .gpr 1, .imm 1#128⟩) (.gpr 1) (.gpr 4) start ∧
    ComputesFrom (.elementDeposit ⟨0, .fixed .v2, .index, .gpr 4, g 1, .imm 1#128⟩) (.gpr 1) (.gpr 4) start ∧
    ComputesFrom (.loadWordAddressed ⟨0, .gpr 7, ptr (g 1)⟩) (.gpr 1) (.gpr 7) start ∧
    ConditionReads (.gpr 1) (.nonzero (g 1)) ∧ max 1 1 ≤ start.opl := by
  refine ⟨.inl ⟨_, rfl, rfl, rfl, by decide⟩, .inr ⟨_, rfl, rfl, rfl, by decide, by decide⟩,
    .inl ⟨_, rfl, rfl, rfl, by decide, by decide⟩, .inr (.inl ⟨_, rfl, rfl, rfl, by decide, by decide, by decide⟩), rfl,
    .inr ⟨_, rfl, rfl⟩, .inl ⟨_, rfl, .inr ⟨_, rfl, rfl⟩, rfl, by decide⟩,
    .inr (.inl ⟨_, rfl, .inr ⟨_, rfl, rfl⟩, rfl, by decide⟩),
    .inr (.inr (.inl ⟨_, rfl, .inl rfl, rfl, by decide, by decide⟩)),
    .inr (.inr (.inr (.inl ⟨_, rfl, .inr (.inl ⟨_, rfl, rfl⟩), rfl, by decide, by decide⟩))),
    .inr (.inr (.inr (.inr ⟨_, .inl ⟨_, rfl, rfl, rfl, by decide⟩, .inl ⟨_, rfl, rfl⟩⟩))), ⟨_, rfl, rfl⟩, by decide⟩
/-- A system with an agent, one of its own address bits; the least and the greatest level of an interrupt; held, dropped and full; a
number that no agent has. -/
theorem witness_EventsFromOutside :
    foreign start.impl (.agent 0) = true ∧ foreign start.impl (.agent 1) = false ∧ foreign start.impl .self = false ∧
    1 ≤ start.impl.plMax ∧ start.xie = true ∧ start.impl.xpendCapacity = none ∧
    ({ xpendPolicy := .dropped } : Impl).xpendPolicy = .dropped ∧ (start.setXie false).xie = false ∧
    ({ xpendCapacity := some 0 } : Impl).xpendCapacity = some 0 ∧ 0 ≤ start.xpend.length ∧
    0 < 2 ^ start.impl.nMem ∧ 2 ^ 128 - 1 < 2 ^ start.impl.nMem ∧ start.isBacked (2 ^ 128 - 1) = true ∧
    (start.setBacking [⟨9, 9, false⟩]).isBacked 9 = false ∧
    86 % UnitSize.biOctet.octets = 0 ∧ start.isBacked (86 / 16) = true ∧ 87 % UnitSize.biOctet.octets ≠ 0 ∧
    (([(0, 8)] : List (Nat × Nat)).map Prod.fst).Nodup ∧ (0, 8) ∈ [((0 : Nat), 8)] := by decide
/-- Taken and not taken. -/
theorem witness_ControlFlowCompletes :
    (⟨0, .zero (g 1), ptr (g 6)⟩ : ControlFlow).priv ≤ start.opl ∧ start.holds (.zero (g 1)) = true ∧
    start.holds (.nonzero (g 1)) = false := by decide
theorem witness_InternalInterruptCompletes :
    (⟨0, 1⟩ : InternalInterrupt).priv ≤ ((start.setOpl 0).setXie false).opl := by decide
theorem witness_SendInterruptCompletes : start.impl.plMax ≤ start.opl := by decide

/-- At the least and the greatest level. -/
theorem witness_HandlerRegistrationCompletes : max 1 0 ≤ start.opl ∧ max 1 1 ≤ start.opl := by decide
theorem witness_SaveSetReadsComplete : max 1 1 ≤ start.opl := by decide
/-- A level within PL_MAX, and one above. -/
theorem witness_SaveSetWritesComplete :
    max 1 1 ≤ start.opl ∧ (start.value (.imm 1#128)).toNat ≤ start.impl.plMax ∧
    ¬ (start.value (.imm 2#128)).toNat ≤ start.impl.plMax := by decide
theorem witness_ReturnsComplete : max 1 1 ≤ start.opl := by decide
theorem witness_XieAndOplWritesComplete : 1 ≤ start.opl ∧ 0 ≤ start.opl := by decide
theorem witness_CoherenceEnforcementCompletes :
    1 ≤ (start.memWriteW 5#128 1#128).opl ∧ (start.memWriteW 5#128 1#128).isBacked 5 = true := by decide
/-- An exception of level 1 and an interrupt of level 1, each taken from OPL 0. -/
theorem witness_ReturnUndoesEntry :
    1 ≤ 1 ∧ TookException .invalidInstruction 1 (start.setOpl 0) ((start.setOpl 0).trapEntry .invalidInstruction 1) ∧
    TookInterrupt 1 0#128 0 (start.setOpl 0) ((start.setOpl 0).interruptEntry 1) := by
  refine ⟨Nat.le_refl 1,
    ⟨rfl, fun q hq => (State.esaveAt_trapEntry _ _ _ _).trans (if_neg hq), rfl, rfl, ⟨rfl, rfl, rfl⟩,
      ⟨fun _ => rfl, fun _ => rfl, fun _ => rfl⟩, ⟨fun _ => rfl, rfl, rfl⟩, ⟨rfl, rfl⟩, rfl, rfl, fun _ => rfl,
      fun _ => rfl, fun _ => rfl⟩,
    ⟨rfl, fun q hq => (State.isaveAt_interruptEntry _ _ _).trans (if_neg hq), rfl, rfl, ⟨rfl, rfl, rfl⟩,
      ⟨fun _ => rfl, fun _ => rfl, fun _ => rfl⟩, ⟨fun _ => rfl, rfl, rfl⟩, ⟨rfl, rfl⟩, rfl, fun _ => rfl,
      fun _ => rfl, fun _ => rfl⟩⟩
theorem witness_SrnrMapping : (0 : Fin 128) ≠ 1 := by decide
theorem witness_SgprMapping : (126 : Fin 128) ≠ 127 := by decide
/-- The four NOPs, one step. -/
theorem witness_StepKeepsInv : Inv atGood ∧ (stepped atGood).isSome = true := by
  refine ⟨⟨by decide, by decide, by decide, ⟨fun p => ?_, fun p => ?_⟩, ?_, by decide⟩, rfl⟩
  · exact Nat.zero_le _
  · exact Nat.zero_le _
  · intro p hp; exact absurd hp List.not_mem_nil
/-- An unrecognised instruction at OPL 0. -/
theorem witness_PrivilegeRisesOnlyIntoHandlers :
    (start.setOpl 0).opl = 0 ∧ (stepped (start.setOpl 0)).map State.opl = some 1 := ⟨rfl, rfl⟩
theorem witness_UnprivilegedStepsKeepHandlers :
    ((atGood.setOpl 0).setXie false).opl = 0 ∧ ((atGood.setOpl 0).setXie false).xie = false ∧
    (stepped ((atGood.setOpl 0).setXie false)).isSome = true := ⟨rfl, rfl, rfl⟩

end Sys2Proof.Tests
end

section
/-! PROOFS. Everything a step can do, said once: take an interrupt, raise an exception of the instruction cycle, or attempt one
recognised instruction of ISET. -/

namespace Sys2Proof.Machine

open Sys2Proof

/-! ### Package rows -/

/-- A row of package formats means what its sub-fields mean: the arm of every such row is `runPackage`, and no other row has
sub-fields. -/
theorem exec_package {i : Instr} {p : Package} (h : i.package? = some p) (s : State) : exec i s = runPackage p s := by
  cases i <;> cases h <;> rfl

theorem packageRows_package (w : Word) : (packageRows.all fun row => (row w).package?.isSome) = true := by
  have h0 : (packageRows0.all fun row => (row w).package?.isSome) = true := rfl
  have h40 : (packageRows40.all fun row => (row w).package?.isSome) = true := rfl
  have h80 : (packageRows80.all fun row => (row w).package?.isSome) = true := rfl
  have h120 : (packageRows120.all fun row => (row w).package?.isSome) = true := rfl
  simp only [packageRows, List.all_append, h0, h40, h80, h120, Bool.and_self]

/-- What a fetched word decodes to is a row of package formats. -/
theorem package_of_decodePackage {w : Word} {i : Instr} (h : decodePackage w = .ok i) : ∃ p, i.package? = some p := by
  simp only [decodePackage] at h
  split at h
  · rename_i row hrow
    cases h
    exact Option.isSome_iff_exists.mp (List.all_eq_true.mp (packageRows_package w) row (List.mem_of_getElem? hrow))
  · cases h

/-! ### From the fetch to the instruction -/

/-- The state in which an instruction of ISET or a check on its package finds the processor: unpredictable values drawn up to
`n`, and the shape of the package noted. -/
def State.ready (s : State) (n : Nat) (sh : Shape) : State := (s.setFree n).setShape sh

/-- `t` is what steps 8 and 9 of R165 make of `s` with a line of ISET that the processor recognises. -/
def Attempted (s t : State) : Prop :=
  ∃ e ∈ s.impl.iset, recognised s.impl e = true ∧ t = s.attempt (isetPriv s.impl e.op) (isetFlow e.op) (isetExec e.op)

/-- `t` follows from `s`, ready for an instruction, by an exception of the instruction cycle, or by an instruction attempted. -/
def Concluded (s t : State) : Prop := (∃ x, x ≠ .insufficientPrivilege ∧ t = s.raise x) ∨ Attempted s t

theorem fetch_setFree (s : State) (a : Word) : ∃ n, (s.fetch a).2 = s.setFree n := by
  rcases s.fetch_state a with h | h
  · exact ⟨s.free, h⟩
  · exact ⟨s.free + 1, h⟩

/-- Everything step 7 on can do with an instruction word. -/
theorem perform_cases {w : InstrWord} {s t : State} (h : perform w s = .next t) : Concluded s t := by
  unfold perform at h
  split at h
  · cases h; exact .inl ⟨.invalidInstruction, by decide, rfl⟩
  · next e hl =>
    cases h
    have he : e ∈ isetLines s.impl w := by rw [hl]; exact List.mem_singleton_self e
    simp only [isetLines, List.mem_filter, Bool.and_eq_true] at he
    exact .inr ⟨e, he.1, he.2.2, rfl⟩
  · cases h

/-- Everything a spanned instruction can do. -/
theorem runSpanned_cases {p : Package} {s t : State} (h : runSpanned p s = .next t) :
    ∃ n sh, Concluded (s.ready n sh) t := by
  obtain ⟨n, hn⟩ := fetch_setFree s (s.ipmar + 1#128)
  simp only [runSpanned, hn] at h
  split at h
  · cases h; exact ⟨n, s.shape, .inl ⟨.invalidSpannedInstruction, by decide, rfl⟩⟩
  · exact ⟨n, p.shape, perform_cases h⟩

/-- Everything a package can do. -/
theorem runPackage_cases {p : Package} {s t : State} (h : runPackage p s = .next t) :
    ∃ n sh, Concluded (s.ready n sh) t := by
  unfold runPackage at h
  split at h
  · cases h; exact ⟨s.free, s.shape, .inl ⟨.invalidSpannedInstruction, by decide, rfl⟩⟩
  · split at h
    · cases h; exact ⟨s.free, s.shape, .inl ⟨.invalidInstructionPackage, by decide, rfl⟩⟩
    · split at h
      · cases h
      · exact ⟨s.free, p.shape, perform_cases h⟩
      · exact runSpanned_cases h

theorem step_interrupt {s t : State} (h : s.interruptTurn = (true, t)) : step s = .next t := by
  simp only [step, h]

theorem step_reserved {s s0 s1 : State} {x : DecodeError} (h : s.interruptTurn = (false, s0))
    (hf : fetchDecoded s0 = (.error x, s1)) : step s = .next (refusedFormat s1) := by
  simp only [step, h, hf]

theorem step_decoded {s s0 s1 : State} {i : Instr} (h : s.interruptTurn = (false, s0))
    (hf : fetchDecoded s0 = (.ok i, s1)) : step s = exec i s1 := by
  simp only [step, h, hf]

/-- Everything a step can do that takes no interrupt. -/
theorem step_cases_of_no_interrupt {s s0 t : State} (hn : s.interruptTurn = (false, s0)) (h : step s = .next t) :
    ∃ n sh, Concluded (s0.ready n sh) t := by
  obtain ⟨n, hs1⟩ := fetch_setFree s0 s0.ipmar
  have hf : fetchDecoded s0 = (decodePackage (s0.fetch s0.ipmar).1, s0.setFree n) := by rw [← hs1]; rfl
  cases hd : decodePackage (s0.fetch s0.ipmar).1 with
  | error x =>
    rw [step_reserved hn (hf.trans (by rw [hd]))] at h
    cases h
    exact ⟨n, s0.shape, .inl ⟨.invalidInstructionPackageFormat, by decide, rfl⟩⟩
  | ok i =>
    obtain ⟨p, hp⟩ := package_of_decodePackage hd
    rw [step_decoded hn (hf.trans (by rw [hd])), exec_package hp] at h
    obtain ⟨m, sh, hc⟩ := runPackage_cases h
    exact ⟨m, sh, hc⟩

/-- Everything a step can do: take one of the pending interrupts, reception being enabled, or fetch and conclude. -/
theorem step_cases {s t : State} (h : step s = .next t) :
    (∃ k p, s.xie = true ∧ s.xpend[k]? = some p ∧
      t = (((s.drawn).setXpend (s.xpend.eraseIdx k)).decidedAt [.priv .xie]).interruptEntry p) ∨
    ∃ n sh, Concluded (s.ready n sh) t := by
  rcases s.interruptTurn_cases with hn | hn | ⟨k, p, hx, hp, ht⟩
  · exact .inr (step_cases_of_no_interrupt hn h)
  · obtain ⟨n, sh, hc⟩ := step_cases_of_no_interrupt hn h
    exact .inr ⟨n, sh, hc⟩
  · rw [step_interrupt ht] at h
    cases h
    exact .inl ⟨k, p, hx, hp, rfl⟩

end Sys2Proof.Machine
end

section
/-! PROOFS. Every step and every event from outside keeps the invariant (O58). -/

namespace Sys2Proof.Machine

open Sys2Proof

/-! ### Levels of a legal implementation -/

theorem levels_wf_of_impl {c : Impl} (h : c.wf = true) : c.levels.wf c.plMax = true := by
  simp only [Impl.wf, Bool.and_eq_true] at h
  obtain ⟨⟨⟨⟨⟨_, hl⟩, _⟩, _⟩, _⟩, _⟩ := h
  exact hl

theorem one_le_plMax {c : Impl} (h : c.wf = true) : 1 ≤ c.plMax := by
  simp only [Impl.wf, Bool.and_eq_true, decide_eq_true_eq] at h
  omega

theorem nMem_le {c : Impl} (h : c.wf = true) : c.nMem ≤ 128 := by
  simp only [Impl.wf, Bool.and_eq_true, decide_eq_true_eq] at h
  omega

theorem entry_levelsWithin {c : Impl} (h : c.wf = true) {e : IsetEntry} (he : e ∈ c.iset) :
    e.op.levelsWithin c.plMax = true := by
  simp only [Impl.wf, Bool.and_eq_true, List.all_eq_true] at h
  have hwf := h.1.2 e he
  simp only [IsetEntry.wf, Bool.and_eq_true] at hwf
  exact hwf.1.1

/-- Every exception but INSUFFICIENT PRIVILEGE has a level of the implementation, whatever OPL is (R311, R314). -/
theorem levelOf_le {c : Impl} (h : c.wf = true) (opl : Nat) {x : ExcId} (hx : x ≠ .insufficientPrivilege) :
    c.levelOf opl x ≤ c.plMax := by
  have hl := levels_wf_of_impl h
  simp only [ExcLevels.wf, levelIn, Bool.and_eq_true, decide_eq_true_eq] at hl
  cases x with
  | insufficientPrivilege => exact absurd rfl hx
  | _ => simp only [Impl.levelOf]; omega

/-- So has INSUFFICIENT PRIVILEGE at an OPL below the highest: OPL + 1, or the level an extension gives it. -/
theorem insufficientAt_le {c : Impl} (h : c.wf = true) {opl : Nat} (ho : opl < c.plMax) :
    c.levels.insufficientAt opl ≤ c.plMax := by
  have hl := levels_wf_of_impl h
  simp only [ExcLevels.wf, Bool.and_eq_true, List.all_eq_true, decide_eq_true_eq] at hl
  obtain ⟨⟨⟨⟨⟨⟨hp, _⟩, _⟩, _⟩, _⟩, _⟩, _⟩ := hl
  unfold ExcLevels.insufficientAt
  split
  · exact Nat.max_le.mpr ⟨ho, hp _ (List.mem_of_find?_eq_some ‹_›)⟩
  · exact ho

theorem privLevel_le {n : Nat} (h1 : 1 ≤ n) {o : PrivOp} (h : o.levelsWithin n = true) : privLevel o ≤ n := by
  cases o <;> simp only [PrivOp.levelsWithin, decide_eq_true_eq] at h <;> simp only [privLevel] <;> omega

theorem action_level_le {n : Nat} (h1 : 1 ≤ n) {a : Action} (h : a.levelsWithin n = true) : a.level n ≤ n := by
  cases a with
  | readPriv f | writePriv f =>
    cases f <;> simp only [Action.levelsWithin, PrivField.levelsWithin, decide_eq_true_eq] at h <;>
      simp only [Action.level, PrivField.level] <;> omega
  | exceptionReturn p | interruptReturn p =>
    simp only [Action.levelsWithin, decide_eq_true_eq] at h
    exact Nat.max_le.mpr ⟨h1, h⟩
  | _ => simp only [Action.level]; omega

theorem foldl_level_le {n : Nat} (h1 : 1 ≤ n) {l : List GuardedAction}
    (h : ∀ a ∈ l, a.action.levelsWithin n = true) {k : Nat} (hk : k ≤ n) :
    l.foldl (fun m a => max m (a.action.level n)) k ≤ n := by
  induction l generalizing k with
  | nil => exact hk
  | cons a l ih =>
    exact ih (fun b hb => h b (List.mem_cons_of_mem _ hb))
      (Nat.max_le.mpr ⟨hk, action_level_le h1 (h a List.mem_cons_self)⟩)

/-- An instruction of ISET asks for no level that the implementation does not have (R163, R300). -/
theorem isetPriv_le {c : Impl} (h : c.wf = true) {op : Op} (ho : op.levelsWithin c.plMax = true) :
    isetPriv c op ≤ c.plMax := by
  have h1 := one_le_plMax h
  simp only [Op.levelsWithin, Bool.and_eq_true, decide_eq_true_eq] at ho
  obtain ⟨hp, hl⟩ := ho
  cases op with
  | sendInterrupt o => exact Nat.le_refl _
  | privilegedState o => exact privLevel_le h1 hl
  | composite o => exact foldl_level_le h1 (List.all_eq_true.mp hl) hp
  | _ => exact hp

/-! ### What the invariant gives -/

theorem opl_le_of_inv {s : State} (hs : Inv s) : s.opl ≤ s.impl.plMax := by
  obtain ⟨_, _, ho, _⟩ := hs
  exact ho

theorem xpend_le_of_inv {s : State} (hs : Inv s) : ∀ p ∈ s.xpend, p ≤ s.impl.plMax := by
  obtain ⟨_, _, _, _, hx, _⟩ := hs
  exact hx

/-! ### Sequencing and entries -/

theorem inv_advance {s : State} (hs : Inv s) : Inv s.advance := by
  obtain ⟨hc, hm, ho, hv, hx, hi⟩ := hs
  rcases s.advance_cases with ⟨_, h⟩ | ⟨_, h⟩ <;> rw [h]
  · exact ⟨hc, hm, ho, hv, hx, hi⟩
  · exact ⟨hc, hm, ho, hv, hx, trunc_lt _ _⟩

theorem impl_advance (s : State) : s.advance.impl = s.impl := by rw [s.advance_eq]

theorem inv_controlTransfer {s : State} (hs : Inv s) (a : Word) : Inv (s.controlTransfer a) := by
  obtain ⟨hc, hm, ho, hv, hx, _⟩ := hs
  exact ⟨hc, hm, ho, hv, hx, trunc_lt _ _⟩

theorem inv_setOpl {s : State} (hs : Inv s) {q : Nat} (hq : q ≤ s.impl.plMax) : Inv (s.setOpl q) := by
  obtain ⟨hc, hm, _, hv, hx, hi⟩ := hs
  exact ⟨hc, hm, hq, hv, hx, hi⟩

theorem inv_setXie {s : State} (hs : Inv s) (b : Bool) : Inv (s.setXie b) := inv_congr hs rfl

/-- Exception entry saves the present OPL and takes the greater of it and the level (R320, D15). -/
theorem inv_trapEntry {s : State} (hs : Inv s) (x : ExcId) {p : Nat} (hp : p ≤ s.impl.plMax) : Inv (s.trapEntry x p) := by
  have ho := opl_le_of_inv hs
  have hsaved : Inv ((s.exceptionEntered p).setEsave p ⟨s.opl, s.ipmar, s.iidx, s.impl.ceid.of x⟩) :=
    inv_setEsave (inv_congr hs rfl) p ho
  exact inv_controlTransfer (inv_setOpl (inv_setXie hsaved false) (Nat.max_le.mpr ⟨ho, hp⟩)) _

/-- Interrupt entry saves the present OPL and takes the interrupt's level (R331). -/
theorem inv_interruptEntry {s : State} (hs : Inv s) {p : Nat} (hp : p ≤ s.impl.plMax) : Inv (s.interruptEntry p) := by
  have hsaved : Inv ((s.interruptEntered p).setIsave p ⟨s.opl, s.ipmar, s.iidx⟩) :=
    inv_setIsave (inv_congr hs rfl) p (opl_le_of_inv hs)
  exact inv_controlTransfer (inv_setOpl (inv_setXie hsaved false) hp) _

/-- An interrupt taken from the pending ones has a level of the implementation (R44). -/
theorem inv_interruptTaken {s : State} (hs : Inv s) {k p : Nat} (hp : s.xpend[k]? = some p) :
    Inv ((((s.drawn).setXpend (s.xpend.eraseIdx k)).decidedAt [.priv .xie]).interruptEntry p) := by
  obtain ⟨hc, hm, ho, hv, hx, hi⟩ := hs
  have hrest : Inv ((s.drawn).setXpend (s.xpend.eraseIdx k)) :=
    ⟨hc, hm, ho, hv, fun q hq => hx q (List.mem_of_mem_eraseIdx hq), hi⟩
  exact inv_interruptEntry (inv_congr hrest rfl) (hx p (List.mem_of_getElem? hp))

theorem inv_raise {s : State} (hs : Inv s) {x : ExcId} (hx : x ≠ .insufficientPrivilege) : Inv (s.raise x) :=
  inv_trapEntry hs x (levelOf_le hs.1 s.opl hx)

/-! ### Effects -/

/-- The levels that an outcome names are levels of the implementation. -/
def IsetOutcome.within (n : Nat) : IsetOutcome → Prop
  | .exception _ p | .internalInterrupt p => p ≤ n
  | .next | .transfer _ | .done => True

/-- What the invariant asks of an instruction's effect on this implementation: the state it leaves, and the levels it names. -/
structure Sound (c : Impl) (e : Effect) : Prop where
  impl : e.state.impl = c
  inv : Inv e.state
  levels : e.outcome.within c.plMax

theorem impl_of_within {s t : State} (h : State.Within s t) : t.impl = s.impl := by rw [h]

/-- An effect within what instructions may write leaves the implementation alone. -/
theorem sound_of_within {s : State} {e : Effect} (h : State.Within s e.state) (hinv : Inv e.state)
    (hl : e.outcome.within s.impl.plMax) : Sound s.impl e := ⟨impl_of_within h, hinv, hl⟩

/-- A register written, and on to the next instruction. -/
theorem sound_writeReg {s : State} (hs : Inv s) (r : Reg) (v : Word) : Sound s.impl ⟨s.writeReg r v, .next⟩ :=
  sound_of_within (State.within_writeReg s r v) (inv_writeReg hs r v) trivial

/-- An exception of the instruction's own, nothing written. -/
theorem sound_exception {s : State} (hs : Inv s) {x : ExcId} (hx : x ≠ .insufficientPrivilege) :
    Sound s.impl ⟨s, .exception x (s.impl.levelOf s.opl x)⟩ := ⟨rfl, hs, levelOf_le hs.1 s.opl hx⟩

/-- A report is sound: it writes a register or a CR, or says where to go on. -/
theorem sound_deliver {s : State} (hs : Inv s) (r : Report) (ok : Bool) : Sound s.impl (s.deliver r ok) := by
  cases r with
  | register | bit | implementation => exact sound_writeReg hs _ _
  | carry i => exact ⟨rfl, inv_congr hs rfl, trivial⟩
  | transferIf sense target =>
    simp only [State.deliver]
    split <;> exact ⟨rfl, hs, trivial⟩

theorem sound_deliverAny {s : State} (hs : Inv s) (r : Option Report) (ok : Bool) : Sound s.impl (s.deliverAny r ok) := by
  cases r with
  | none => exact ⟨rfl, hs, trivial⟩
  | some r => exact sound_deliver hs r ok

/-- A 129-bit result is its low 128 bits and its carry: the write of R29 as composite instructions make it. -/
theorem carryWriteGpr_eq_writeCarry (s : State) (g : Fin 64) (r : BitVec 129) :
    s.carryWriteGpr g r = s.writeCarry (.gpr g) (r.setWidth 128) r.msb :=
  congrArg (s.carryWriteGpr g) (BitVec.cons_msb_setWidth r).symm

theorem sound_integerCarry {s : State} (hs : Inv s) (o : IntegerCarry) : Sound s.impl (integerCarryEffect o s) := by
  unfold integerCarryEffect
  split
  · simp only [carryWriteGpr_eq_writeCarry]
    exact sound_of_within (State.within_writeCarry s (.gpr _) _ _) (inv_writeCarry hs (.gpr _) _ _) trivial
  · exact ⟨rfl, inv_congr hs rfl, trivial⟩

theorem sound_elementExtract {s : State} (hs : Inv s) (o : ElementExtract) : Sound s.impl (elementExtractEffect o s) := by
  unfold elementExtractEffect
  split
  · exact sound_writeReg hs _ _
  · exact sound_exception hs (by decide)
  · exact sound_writeReg hs _ _

theorem sound_elementDeposit {s : State} (hs : Inv s) (o : ElementDeposit) : Sound s.impl (elementDepositEffect o s) := by
  unfold elementDepositEffect
  split
  · exact sound_writeReg hs _ _
  · exact sound_exception hs (by decide)
  · exact sound_writeReg hs _ _

theorem sound_loadWord {s : State} (hs : Inv s) (o : LoadWord) : Sound s.impl (loadWordEffect o s) := by
  have hread : Inv (s.memReadW (s.address o.addr)).2 := by
    rcases s.memReadW_cases (s.address o.addr) with ⟨_, h⟩ | ⟨_, h⟩ <;> rw [h] <;> exact inv_congr hs rfl
  exact sound_of_within ((State.within_memReadW _ _).trans (State.within_writeReg _ _ _)) (inv_writeReg hread _ _) trivial

theorem sound_loadOctet {s : State} (hs : Inv s) (o : LoadOctet) : Sound s.impl (loadOctetEffect o s) := by
  unfold loadOctetEffect
  split
  · next h =>
    exact sound_of_within ((State.within_memRead h).trans (State.within_writeReg _ _ _))
      (inv_writeReg (inv_memRead hs h) _ _) trivial
  · exact sound_exception hs (by decide)

theorem sound_storeWord {s : State} (hs : Inv s) (o : StoreWord) : Sound s.impl (storeWordEffect o s) :=
  sound_of_within (State.within_store _ _ _ _) (inv_memWriteW hs _ _) trivial

theorem sound_storeOctet {s : State} (hs : Inv s) (o : StoreOctet) : Sound s.impl (storeOctetEffect o s) := by
  unfold storeOctetEffect
  split
  · next h => exact sound_of_within (State.within_memWrite h) (inv_memWrite hs h) trivial
  · exact sound_exception hs (by decide)

/-- What a STORE ATOMIC writes lies in the memory. -/
theorem atomicLocation_le (o : StoreAtomic) (s : State) : atomicLocation o s + atomicOctets o ≤ Memory.locations := by
  unfold atomicLocation atomicOctets
  split
  · next addr h =>
    have := (trunc s.impl (s.address addr)).isLt
    simp only [State.wordLocation, Memory.locations]
    omega
  · next size addr h =>
    have := (trunc s.impl (s.address addr)).isLt
    have : size.octets ≤ 16 := by cases size <;> decide
    simp only [State.octetLocation, Memory.locations]
    omega

theorem sound_storeAtomic {s : State} (hs : Inv s) (o : StoreAtomic) : Sound s.impl (storeAtomicEffect o s) := by
  have hd : Inv s.drawn := inv_congr hs rfl
  unfold storeAtomicEffect
  simp only
  split
  · exact sound_exception hs (by decide)
  · split
    · exact sound_deliverAny hs _ _
    · split
      · have hw := sound_deliverAny (inv_store hd (s.readReg o.src).toNat (atomicLocation_le o s)) o.report true
        rwa [impl_of_within (State.within_store _ _ _ _)] at hw
      · exact sound_deliverAny hd _ _

theorem sound_controlFlow {s : State} (hs : Inv s) (o : ControlFlow) : Sound s.impl (controlFlowEffect o s) := by
  unfold controlFlowEffect
  split <;> exact ⟨rfl, hs, trivial⟩

/-- An operation on privileged state is the write of one field, a return, or none of what the invariant looks at. -/
theorem sound_privileged {s : State} (hs : Inv s) {o : PrivilegedState} (ho : o.op.levelsWithin s.impl.plMax = true) :
    Sound s.impl (privilegedEffect o s) := by
  obtain ⟨op⟩ := o
  have field : ∀ f v, Sound s.impl ⟨writePrivField s f v, .next⟩ := fun f v =>
    sound_of_within (State.within_writePrivField s f v) (inv_writePrivField hs f v) trivial
  cases op with
  | setEha p src => exact field (.eha p) _
  | setIha p src => exact field (.iha p) _
  | writeEsave p f src => exact field (.esave p f) _
  | writeIsave p f src => exact field (.isave p f) _
  | exceptionReturn p => exact ⟨rfl, inv_exceptionReturn hs p, trivial⟩
  | interruptReturn p => exact ⟨rfl, inv_interruptReturn hs p, trivial⟩
  | lowerOpl q target =>
    have hq : Inv (s.setOpl q) := inv_setOpl hs (of_decide_eq_true ho)
    cases target <;> exact ⟨rfl, hq, trivial⟩
  | readEsave p f dst | readIsave p f dst => exact sound_writeReg hs _ _
  | setXie | enforceCoherence => exact ⟨rfl, inv_congr hs rfl, trivial⟩

/-! ### Composite instructions -/

/-- The levels named by an action's outcome, the action naming none that does not exist. -/
theorem levels_runAction (a : Action) (g : List Nat) {r : Running} (hr : Inv r.state)
    (ha : a.levelsWithin r.state.impl.plMax = true) (ho : r.outcome.within r.state.impl.plMax) :
    (runAction a g r).outcome.within r.state.impl.plMax := by
  have hfail : ∀ x l, x ≠ .insufficientPrivilege → (r.fail x l).outcome.within r.state.impl.plMax := fun x _ hx =>
    levelOf_le hr.1 r.state.opl hx
  cases a with
  | load size addr | store size addr value =>
    simp only [runAction]
    split
    · exact ho
    · exact hfail _ _ (by decide)
  | unalignedSelect => exact hfail .unalignedElementSelect g (by decide)
  | internalInterrupt p => exact (of_decide_eq_true ha : p ≤ r.state.impl.plMax)
  | transfer | exceptionReturn | interruptReturn => trivial
  | compute | loadWord | storeWord | barrier | write | writeCarry | readPriv | writePriv | enforceCoherence | sendInterrupt =>
    exact ho

theorem outcome_skipAction (a : Action) (g : List Nat) (r : Running) : (skipAction a g r).outcome = r.outcome := by
  simp only [skipAction]
  split <;> split <;> rfl

/-- A composite instruction under way, as an effect: what it has written, and how it would end. -/
def Running.effect (r : Running) : Effect := ⟨r.state, r.outcome⟩

theorem sound_runAction {c : Impl} {a : Action} (ha : a.levelsWithin c.plMax = true) (g : List Nat) {r : Running}
    (hr : Sound c r.effect) : Sound c (runAction a g r).effect := by
  have hc : r.state.impl = c := hr.impl
  subst hc
  exact sound_of_within (within_runAction a g r) (inv_runAction a g hr.inv) (levels_runAction a g hr.inv ha hr.levels)

theorem sound_skipAction {c : Impl} (a : Action) (g : List Nat) {r : Running} (hr : Sound c r.effect) :
    Sound c (skipAction a g r).effect := by
  have he : (skipAction a g r).effect = ⟨r.state.setDepend (skipAction a g r).state.depend, r.outcome⟩ :=
    congr (congrArg Effect.mk (skipAction_state a g r)) (outcome_skipAction a g r)
  rw [he]
  exact ⟨hr.impl, inv_congr hr.inv rfl, hr.levels⟩

theorem sound_runGuarded {c : Impl} {a : GuardedAction} (ha : a.action.levelsWithin c.plMax = true) {r : Running}
    (hr : Sound c r.effect) : Sound c (runGuarded a r).effect := by
  unfold runGuarded
  split
  · split
    · exact sound_runAction ha _ hr
    · exact sound_skipAction a.action _ hr
  · exact sound_runAction ha _ hr

theorem sound_runActions {c : Impl} {l : List GuardedAction} (hl : ∀ a ∈ l, a.action.levelsWithin c.plMax = true)
    {r : Running} (hr : Sound c r.effect) : Sound c (runActions l r).effect := by
  induction l generalizing r with
  | nil => exact hr
  | cons a l ih =>
    unfold runActions
    split
    · exact hr
    · exact ih (fun b hb => hl b (List.mem_cons_of_mem _ hb)) (sound_runGuarded (hl a List.mem_cons_self) hr)

theorem sound_composite {s : State} (hs : Inv s) {o : Composite}
    (ho : ∀ a ∈ o.actions, a.action.levelsWithin s.impl.plMax = true) : Sound s.impl (compositeEffect o s) := by
  obtain ⟨himpl, hinv, hlev⟩ := sound_runActions (c := s.impl) ho
    (r := ⟨s, o.sources.map fun x => ⟨s.value x, s.depend.reads (operandPlaces x)⟩, [], .next⟩) ⟨rfl, hs, trivial⟩
  exact ⟨himpl, inv_congr hinv rfl, hlev⟩

/-- `ISET.exec` is sound on an instruction that names no level above PL_MAX. -/
theorem sound_isetExec {s : State} (hs : Inv s) {op : Op} (ho : op.levelsWithin s.impl.plMax = true) :
    Sound s.impl (isetExec op s) := by
  simp only [Op.levelsWithin, Bool.and_eq_true] at ho
  obtain ⟨_, ho⟩ := ho
  cases op with
  | aviObtain | vector | scalar => exact sound_writeReg hs _ _
  | aeQuery o => exact sound_deliver hs _ _
  | integerCarry o => exact sound_integerCarry hs o
  | elementExtract o => exact sound_elementExtract hs o
  | elementDeposit o => exact sound_elementDeposit hs o
  | loadWordAddressed o => exact sound_loadWord hs o
  | storeWordAddressed o => exact sound_storeWord hs o
  | loadOctetAddressed o => exact sound_loadOctet hs o
  | storeOctetAddressed o => exact sound_storeOctet hs o
  | storeAtomic o => exact sound_storeAtomic hs o
  | controlFlow o => exact sound_controlFlow hs o
  | internalInterrupt o => exact ⟨rfl, hs, (of_decide_eq_true ho : o.level ≤ s.impl.plMax)⟩
  | memoryBarrier | sendInterrupt | null => exact ⟨rfl, inv_congr hs rfl, trivial⟩
  | privilegedState o => exact sound_privileged hs ho
  | composite o => exact sound_composite hs (List.all_eq_true.mp ho)

/-! ### The step -/

/-- Step 9 keeps the invariant after a sound effect. -/
theorem inv_conclude {s : State} (hs : Inv s) (w : Flow) {e : Effect} (he : Sound s.impl e) : Inv (s.conclude w e) := by
  obtain ⟨himpl, hinv, hlev⟩ := he
  have htrack : Inv (s.track w e.state) := by rw [s.track_eq]; exact inv_congr hinv rfl
  have htrack_impl : (s.track w e.state).impl = s.impl := by rw [s.track_eq]; exact himpl
  have habandon : Inv (s.abandon w e.state) := by rw [s.abandon_eq]; exact inv_congr hs rfl
  have habandon_impl : (s.abandon w e.state).impl = s.impl := by rw [s.abandon_eq]; rfl
  rcases s.conclude_cases w e with ⟨_, h⟩ | ⟨a, _, h⟩ | ⟨x, p, ho, h⟩ | ⟨p, ho, h⟩ | ⟨_, h⟩ <;> rw [h]
  · exact inv_advance htrack
  · exact inv_controlTransfer htrack a
  · rw [ho] at hlev
    exact inv_trapEntry habandon x (by rw [habandon_impl]; exact hlev)
  · rw [ho] at hlev
    exact inv_interruptEntry (inv_advance htrack) (by rw [impl_advance, htrack_impl]; exact hlev)
  · exact htrack

/-- Steps 8 and 9 keep the invariant, for every line of ISET. -/
theorem inv_attempted {s t : State} (hs : Inv s) (h : Attempted s t) : Inv t := by
  obtain ⟨e, he, _, rfl⟩ := h
  have ho := entry_levelsWithin hs.1 he
  rcases s.attempt_cases (isetPriv s.impl e.op) (isetFlow e.op) (isetExec e.op) with ⟨hp, h⟩ | ⟨_, h⟩ <;> rw [h]
  · have hlt : s.opl < s.impl.plMax := Nat.lt_of_lt_of_le hp (isetPriv_le hs.1 ho)
    exact inv_trapEntry (s := s.decidedAt [.priv .opl]) (inv_congr hs rfl) _ (insufficientAt_le hs.1 hlt)
  · exact inv_conclude hs _ (sound_isetExec hs ho)

theorem inv_concluded {s t : State} (hs : Inv s) (h : Concluded s t) : Inv t := by
  rcases h with ⟨x, hx, rfl⟩ | h
  · exact inv_raise hs hx
  · exact inv_attempted hs h

theorem inv_step {s t : State} (hs : Inv s) (h : step s = .next t) : Inv t := by
  rcases step_cases h with ⟨k, p, _, hp, rfl⟩ | ⟨n, sh, hc⟩
  · exact inv_interruptTaken hs hp
  · exact inv_concluded (inv_congr hs rfl) hc

/-! ### Events from outside -/

/-- No level above PL_MAX becomes pending (R44, R332, D18). -/
theorem xpendAfter_le {s : State} (hs : Inv s) (p : Nat) : ∀ q ∈ xpendAfter s p, q ≤ s.impl.plMax := by
  have hx := xpend_le_of_inv hs
  unfold xpendAfter
  split
  · exact hx
  · next hp =>
    have hcons : ∀ q ∈ p :: s.xpend, q ≤ s.impl.plMax := by
      simp only [Bool.not_eq_true', Bool.and_eq_false_iff, decide_eq_false_iff_not] at hp
      exact List.forall_mem_cons.mpr ⟨by omega, hx⟩
    split
    · exact hx
    · split
      · exact hcons
      · split
        · exact hcons
        · exact hx

theorem location_lt (c : Impl) (who : Initiator) (a : Word) : location c who a < 2 ^ 128 :=
  Nat.lt_of_le_of_lt (Nat.mod_le _ _) a.isLt

theorem inv_foreignWrite {s : State} (hs : Inv s) (who : Initiator) {a n : Nat} (v : Nat) (d : Consumed)
    (ha : a + n ≤ Memory.locations) : Inv (foreignWrite s who a n v d) := by
  have hput : Inv (s.put a n v) := by
    obtain ⟨hc, hm, hrest⟩ := hs
    have hwf := State.wf_put v ha hm
    unfold State.put at hwf ⊢
    split
    · next hb => rw [if_pos hb] at hwf; exact ⟨hc, hwf, hrest⟩
    · exact ⟨hc, hm, hrest⟩
  unfold foreignWrite
  split
  · exact inv_congr hput rfl
  · exact hs

theorem inv_foreignWriteWord {s : State} (hs : Inv s) (who : Initiator) (wa v : Word) (d : Consumed) :
    Inv (foreignWrite s who (16 * location s.impl who wa) 16 v.toNat d) := by
  have := location_lt s.impl who wa
  exact inv_foreignWrite hs who _ d (by simp only [Memory.locations]; omega)

theorem inv_foreignAligned {s : State} (hs : Inv s) {who : Initiator} {oa : Word} {size : UnitSize} {f : Nat → State}
    (hf : Inv (f (location s.impl who oa))) : Inv (foreignAligned s who oa size f) := by
  unfold foreignAligned
  split
  · exact hf
  · exact hs

theorem inv_foreignWriteOctets {s : State} (hs : Inv s) (who : Initiator) (oa : Word) (size : UnitSize) (v : Word)
    (d : Consumed) : Inv (foreignAligned s who oa size fun a => foreignWrite s who a size.octets v.toNat d) := by
  have := location_lt s.impl who oa
  have : size.octets ≤ 16 := by cases size <;> decide
  exact inv_foreignAligned hs (inv_foreignWrite hs who _ d (by simp only [Memory.locations]; omega))

/-- Other processors and agents write memory only, and only octets that exist (R60, R109). -/
theorem inv_foreignAccess {s : State} (hs : Inv s) (who : Initiator) (a : ForeignAccess) : Inv (foreignAccess s who a) := by
  cases a with
  | readWord wa => exact inv_congr hs rfl
  | readOctets oa size => exact inv_foreignAligned hs (inv_congr hs rfl)
  | writeWord wa v d => exact inv_foreignWriteWord hs who wa v d
  | writeOctets oa size v d => exact inv_foreignWriteOctets hs who oa size v d
  | storeAtomic oa size v holds d =>
    cases holds with
    | false => exact hs
    | true => exact inv_foreignWriteOctets hs who oa size v d
  | storeAtomicWord wa v holds d =>
    cases holds with
    | false => exact hs
    | true => exact inv_foreignWriteWord hs who wa v d
  | barrier sel => exact inv_congr hs rfl

/-- A word location that becomes backed is one that N_MEM bits reach, so its content lies in the memory (R82, R87). -/
theorem inv_backed {s : State} (hs : Inv s) (w : Nat) : Inv (applyEvent (.backed w) s) := by
  simp only [applyEvent]
  split
  · exact hs
  · next h =>
    obtain ⟨hc, hm, hrest⟩ := hs
    simp only [Bool.or_eq_true, Bool.not_eq_true', decide_eq_false_iff_not, not_or, not_not] at h
    have hw : w < 2 ^ 128 := Nat.lt_of_lt_of_le h.2 (Nat.pow_le_pow_right (by decide) (nMem_le hc))
    have hwf : Memory.wf (Memory.writeWord s.mem w (Config.freeWord s.free)) = true :=
      Memory.wf_writeLE 16 _ (by simp only [Memory.locations]; omega) hm
    exact ⟨hc, hwf, hrest⟩

theorem inv_applyEvent {s : State} (hs : Inv s) (e : EnvEvent) : Inv (applyEvent e s) := by
  cases e with
  | interruptArrives p =>
    have hx := xpendAfter_le hs p
    obtain ⟨hc, hm, ho, hv, _, hi⟩ := hs
    exact ⟨hc, hm, ho, hv, hx, hi⟩
  | accessed who a =>
    simp only [applyEvent]
    split
    · exact inv_foreignAccess hs who a
    · exact hs
  | unbacked first last => exact inv_congr hs rfl
  | backed w => exact inv_backed hs w
  | sentTaken n => exact inv_congr hs rfl

/-- Settles O58: `step_cases` says what a step can do, and each of that keeps the invariant, because a legal ISET names no level above
PL_MAX and every address that IPMAR takes is reduced to N_MEM bits; so does each event, by cases. -/
theorem stepKeepsInv : Obligations.StepKeepsInv :=
  ⟨fun _ _ hs h => inv_step hs h, fun e _ hs => inv_applyEvent hs e⟩

end Sys2Proof.Machine
end

section
/-! PROOFS. An instruction that computes in registers and completes: what the end of its step leaves. -/

namespace Sys2Proof.Machine

open Sys2Proof

/-- `t` differs from `s` at most in GPRs, RNRs, CRs and the unpredictable values drawn. -/
def State.Computed (s t : State) : Prop := t = { s with gpr := t.gpr, rnr := t.rnr, cr := t.cr, free := t.free }

namespace State

theorem Computed.trans {s t u : State} (h : Computed s t) (k : Computed t u) : Computed s u := by
  unfold Computed at *
  rw [k, h]

theorem advance_setDepend (s : State) (d : Dependences) : (s.setDepend d).advance = s.advance.setDepend d := by
  rcases s.advance_cases with ⟨hk, h⟩ | ⟨hk, h⟩ <;> rw [h]
  · exact if_pos hk
  · exact if_neg (Nat.not_lt.mpr hk)

/-- An instruction that completes advances, and its dependences are recorded. -/
theorem conclude_next (s t : State) (w : Flow) :
    s.conclude w ⟨t, .next⟩ = t.advance.setDepend (s.track w t).depend := by
  change (s.track w t).advance = _
  rw [track_eq, advance_setDepend, setDepend_depend]

@[simp] theorem conclude_next_gpr (s t : State) (w : Flow) : (s.conclude w ⟨t, .next⟩).gpr = t.gpr := by
  rw [conclude_next, advance_eq]; rfl

@[simp] theorem conclude_next_rnr (s t : State) (w : Flow) : (s.conclude w ⟨t, .next⟩).rnr = t.rnr := by
  rw [conclude_next, advance_eq]; rfl

@[simp] theorem conclude_next_cr (s t : State) (w : Flow) : (s.conclude w ⟨t, .next⟩).cr = t.cr := by
  rw [conclude_next, advance_eq]; rfl

@[simp] theorem conclude_next_sgpr (s t : State) (w : Flow) (i : Fin 128) :
    (s.conclude w ⟨t, .next⟩).sgpr i = t.sgpr i := by
  simp only [sgpr, conclude_next_gpr]

end State

theorem advanced_advance (s : State) : Advanced s s.advance := by
  unfold Advanced
  rcases s.advance_cases with ⟨hk, h⟩ | ⟨hk, h⟩ <;> rw [h]
  · rw [if_pos hk]; exact ⟨rfl, rfl, rfl⟩
  · rw [if_neg (Nat.not_lt.mpr hk)]; exact ⟨rfl, rfl, rfl⟩

/-- Registers apart, an instruction that computes leaves everything as it was but the place in the program (R250). -/
theorem computesOnly_conclude {s t : State} (h : s.Computed t) (w : Flow) :
    ComputesOnly s (s.conclude w ⟨t, .next⟩) := by
  rw [State.conclude_next, State.advance_eq, h]
  exact ⟨⟨⟨fun _ => rfl, rfl, rfl⟩, ⟨rfl, rfl, ⟨fun _ => rfl, fun _ => rfl, fun _ => rfl, fun _ => rfl⟩, rfl⟩, rfl, rfl⟩, rfl⟩

/-- The place in the program is where `Advance()` leads from the state before (R174). -/
theorem advanced_conclude {s t : State} (h : s.Computed t) (w : Flow) : Advanced s (s.conclude w ⟨t, .next⟩) := by
  have hadv : Advanced t t.advance := advanced_advance t
  rw [State.conclude_next]
  rw [h] at hadv ⊢
  exact hadv

end Sys2Proof.Machine
end

section
/-! PROOFS. Carry-producing results (O24, O25). -/

namespace Sys2Proof.Machine

open Sys2Proof

namespace State

/-! ### The two other CRs of an overwritten GPR -/

@[simp] theorem gpr_overwrittenCr (s : State) (g : Fin 64) (k : Fin 128) : (s.overwrittenCr g k).gpr = s.gpr := by
  rcases s.overwrittenCr_cases g k with ⟨_, h⟩ | ⟨_, _, h⟩ | ⟨_, _, h⟩ <;> rw [h] <;> rfl

@[simp] theorem rnr_overwrittenCr (s : State) (g : Fin 64) (k : Fin 128) : (s.overwrittenCr g k).rnr = s.rnr := by
  rcases s.overwrittenCr_cases g k with ⟨_, h⟩ | ⟨_, _, h⟩ | ⟨_, _, h⟩ <;> rw [h] <;> rfl

theorem computed_overwrittenCr (s : State) (g : Fin 64) (k : Fin 128) : Computed s (s.overwrittenCr g k) := by
  rcases s.overwrittenCr_cases g k with ⟨_, h⟩ | ⟨_, _, h⟩ | ⟨_, _, h⟩ <;> rw [h] <;> rfl

/-- No CR but `k` is written, and not `k` either where it is CR[g]. -/
theorem cr_overwrittenCr_kept (s : State) {g : Fin 64} {j k : Fin 128} (hj : j ≠ k ∨ j.val = g.val) :
    (s.overwrittenCr g k).cr[j] = s.cr[j] := by
  rcases s.overwrittenCr_cases g k with ⟨_, h⟩ | ⟨hk, _, h⟩ | ⟨hk, _, h⟩ <;> rw [h]
  · exact (s.cr_setCr k j false).trans (if_neg (by omega))
  · exact (s.cr_setCr k j _).trans (if_neg (by omega))

/-- A CR that stands with an SGPR alone becomes 0 (R29). -/
theorem cr_overwrittenCr_cleared (s : State) {g : Fin 64} {k : Fin 128} (hg : k.val ≠ g.val) (h64 : 64 ≤ k.val) :
    (s.overwrittenCr g k).cr[k] = false := by
  rcases s.overwrittenCr_cases g k with ⟨hk, _⟩ | ⟨_, _, h⟩ | ⟨_, hk, _⟩
  · exact absurd hk hg
  · rw [h, cr_setCr, if_pos rfl]
  · omega

/-! ### `CarryWriteGPR` -/

theorem computed_carryWriteGpr (s : State) (g : Fin 64) (r : BitVec 129) : Computed s (s.carryWriteGpr g r) :=
  Computed.trans (t := (s.setGpr g (r.setWidth 128)).setCr ⟨g.val, by omega⟩ (r.getLsbD 128)) rfl
    ((computed_overwrittenCr _ _ _).trans (computed_overwrittenCr _ _ _))

theorem gpr_carryWriteGpr (s : State) (g h : Fin 64) (r : BitVec 129) :
    (s.carryWriteGpr g r).gpr[h] = if h = g then r.setWidth 128 else s.gpr[h] := by
  simp only [carryWriteGpr, gpr_overwrittenCr, setCr_gpr]
  exact s.gpr_setGpr g h _

@[simp] theorem rnr_carryWriteGpr (s : State) (g : Fin 64) (r : BitVec 129) : (s.carryWriteGpr g r).rnr = s.rnr := by
  simp only [carryWriteGpr, rnr_overwrittenCr, setCr_rnr, setGpr_rnr]

/-- A CR that belongs to neither of the two overwritten SGPRs, or is CR[g], holds what the first two writes left. -/
theorem cr_carryWriteGpr_kept (s : State) {g : Fin 64} {k : Fin 128} (r : BitVec 129)
    (hk : k.val = g.val ∨ (k.val ≠ 2 * g.val ∧ k.val ≠ 2 * g.val + 1)) :
    (s.carryWriteGpr g r).cr[k] = if k.val = g.val then r.getLsbD 128 else s.cr[k] := by
  unfold carryWriteGpr
  rw [cr_overwrittenCr_kept _ (by simp only [ne_eq, Fin.ext_iff]; omega),
    cr_overwrittenCr_kept _ (by simp only [ne_eq, Fin.ext_iff]; omega), cr_setCr]
  simp only [Fin.ext_iff]
  rfl

theorem cr_carryWriteGpr_cleared (s : State) {g : Fin 64} {k : Fin 128} (r : BitVec 129) (hg : k.val ≠ g.val)
    (hk : k.val = 2 * g.val ∨ k.val = 2 * g.val + 1) (h64 : 64 ≤ k.val) : (s.carryWriteGpr g r).cr[k] = false := by
  unfold carryWriteGpr
  rcases hk with hk | hk
  · rw [cr_overwrittenCr_kept _ (.inl (by simp only [ne_eq, Fin.ext_iff]; omega)),
      show (⟨2 * g.val, by omega⟩ : Fin 128) = k from Fin.ext hk.symm, cr_overwrittenCr_cleared _ hg h64]
  · rw [show (⟨2 * g.val + 1, by omega⟩ : Fin 128) = k from Fin.ext hk.symm, cr_overwrittenCr_cleared _ hg h64]

/-! ### The carry-producing write to an SGPR -/

theorem computed_carryWriteSgpr (s : State) (i : Fin 128) (r : BitVec 65) : Computed s (s.carryWriteSgpr i r) := rfl

@[simp] theorem rnr_carryWriteSgpr (s : State) (i : Fin 128) (r : BitVec 65) : (s.carryWriteSgpr i r).rnr = s.rnr := rfl

theorem cr_carryWriteSgpr (s : State) (i k : Fin 128) (r : BitVec 65) :
    (s.carryWriteSgpr i r).cr[k] = if k = i then r.getLsbD 64 else s.cr[k] :=
  (s.setSgpr i (r.setWidth 64)).cr_setCr i k _

theorem sgpr_carryWriteSgpr (s : State) (i : Fin 128) (r : BitVec 65) : (s.carryWriteSgpr i r).sgpr i = r.setWidth 64 :=
  s.sgpr_setSgpr_same i _

theorem sgpr_carryWriteSgpr_other (s : State) {i k : Fin 128} (h : k ≠ i) (r : BitVec 65) :
    (s.carryWriteSgpr i r).sgpr k = s.sgpr k := s.sgpr_setSgpr_other h _

theorem gpr_carryWriteSgpr_other (s : State) {i : Fin 128} {h : Fin 64} (hh : h ≠ fullOf i) (r : BitVec 65) :
    (s.carryWriteSgpr i r).gpr[h] = s.gpr[h] := s.gpr_setSgpr_other hh _

end State

/-! ### The instruction -/

theorem exec_integerCarry_allowed {o : IntegerCarry} {s : State} (hp : o.priv ≤ s.opl) :
    exec (.integerCarry o) s = .next (s.conclude (integerCarryFlow o) (integerCarryEffect o s)) :=
  congrArg Host.Outcome.next (s.attempt_allowed _ (integerCarryEffect o) hp)

theorem integerCarryEffect_gpr {o : IntegerCarry} {g : Fin 64} (hd : o.dst = .gpr g) (s : State) :
    integerCarryEffect o s =
      ⟨s.carryWriteGpr g (result129 o.op (s.value o.a) (s.value o.b) (o.carryIn.map fun i => s.cr[i])), .next⟩ := by
  simp only [integerCarryEffect, hd]

theorem integerCarryEffect_sgpr {o : IntegerCarry} {i : Fin 128} (hd : o.dst = .sgpr i) (s : State) :
    integerCarryEffect o s =
      ⟨s.carryWriteSgpr i (result65 o.op ((s.value o.a).setWidth 64) ((s.value o.b).setWidth 64)
        (o.carryIn.map fun k => s.cr[k])), .next⟩ := by
  simp only [integerCarryEffect, hd]

/-- Settles O24: the instruction completes with `CarryWriteGPR`, whose writes the lemmas above follow register by register. -/
theorem carryResultToGpr : Obligations.CarryResultToGpr := by
  intro o g s hd hp
  rw [exec_integerCarry_allowed hp, integerCarryEffect_gpr hd]
  refine ⟨_, rfl, ⟨?_, ?_⟩, fun k hg h0 h1 => ?_, fun k hg hk h64 => ?_, fun h hh => ?_, fun q => ?_,
    computesOnly_conclude (s.computed_carryWriteGpr _ _) _, advanced_conclude (s.computed_carryWriteGpr _ _) _⟩
  · rw [State.conclude_next_gpr, State.gpr_carryWriteGpr, if_pos rfl]
  · rw [State.conclude_next_cr, State.cr_carryWriteGpr_kept _ _ (.inl rfl)]
    exact if_pos rfl
  · rw [State.conclude_next_cr, State.cr_carryWriteGpr_kept _ _ (.inr ⟨h0, h1⟩), if_neg hg]
  · rw [State.conclude_next_cr, State.cr_carryWriteGpr_cleared _ _ hg hk h64]
  · rw [State.conclude_next_gpr, State.gpr_carryWriteGpr, if_neg hh]
  · rw [State.conclude_next_rnr, State.rnr_carryWriteGpr]

/-- Settles O25: the instruction completes with the write of the SGPR and of its CR, and of nothing besides. -/
theorem carryResultToSgpr : Obligations.CarryResultToSgpr := by
  intro o i s hd hp
  rw [exec_integerCarry_allowed hp, integerCarryEffect_sgpr hd]
  refine ⟨_, rfl, ⟨?_, ?_⟩, fun k hk => ⟨?_, ?_⟩, fun h hh => ?_, fun q => ?_,
    computesOnly_conclude (s.computed_carryWriteSgpr _ _) _, advanced_conclude (s.computed_carryWriteSgpr _ _) _⟩
  · rw [State.conclude_next_sgpr, State.sgpr_carryWriteSgpr]
  · rw [State.conclude_next_cr, State.cr_carryWriteSgpr, if_pos rfl]
  · rw [State.conclude_next_sgpr, State.sgpr_carryWriteSgpr_other _ hk]
  · rw [State.conclude_next_cr, State.cr_carryWriteSgpr, if_neg hk]
  · rw [State.conclude_next_gpr, State.gpr_carryWriteSgpr_other _ hh]
  · rw [State.conclude_next_rnr, State.rnr_carryWriteSgpr]

end Sys2Proof.Machine
end

section
/-! PROOFS. Semi-registers are the halves of their registers (O55, O56), and the started processor (O57). -/

namespace Sys2Proof.Machine

open Sys2Proof

/-- A register is its two halves. -/
theorem halves_append (w : Word) : halfOf w 1 ++ halfOf w 0 = w :=
  (BitVec.extractLsb'_append_extractLsb'_eq_extractLsb' (rfl : 64 = 0 + 64)).trans BitVec.extractLsb'_eq_self

namespace State

variable (s : State)

theorem sgpr_even (g : Fin 64) : s.sgpr ⟨2 * g.val, by omega⟩ = halfOf s.gpr[g] 0 := by
  simp only [sgpr, fullOf_even, Nat.mul_mod_right]

theorem sgpr_odd (g : Fin 64) : s.sgpr ⟨2 * g.val + 1, by omega⟩ = halfOf s.gpr[g] 1 := by
  simp only [sgpr, fullOf_odd, Nat.mul_add_mod]

theorem srnr_even (r : Fin 64) : s.srnr ⟨2 * r.val, by omega⟩ = halfOf s.rnr[r] 0 := by
  simp only [srnr, fullOf_even, Nat.mul_mod_right]

theorem srnr_odd (r : Fin 64) : s.srnr ⟨2 * r.val + 1, by omega⟩ = halfOf s.rnr[r] 1 := by
  simp only [srnr, fullOf_odd, Nat.mul_add_mod]

/-- Word 0 is backed (R83). -/
theorem isBacked_zero : s.isBacked 0 = true := by
  rw [isBacked, beq_self_eq_true, Bool.true_or]

end State

/-- Settles O55: SRNR[2 r] and SRNR[2 r + 1] are the halves 0 and 1 of RNR[r], and a write of one half keeps the other. -/
theorem srnrMapping : Obligations.SrnrMapping := by
  intro s i j r v w
  have hw : (s.setRnr r w).rnr[r] = w := (s.rnr_setRnr r r w).trans (if_pos rfl)
  refine ⟨halfOf_eq _ (Nat.mod_lt _ (by decide)), s.srnr_setSrnr_same i v, fun h => s.srnr_setSrnr_other h v, ?_, ?_, ?_⟩
  · rw [s.srnr_odd, s.srnr_even, halves_append]
  · rw [State.srnr_even, hw, halfOf_eq _ (by decide)]
  · rw [State.srnr_odd, hw, halfOf_eq _ (by decide)]

/-- Settles O56: SGPR[2 g] and SGPR[2 g + 1] are the halves 0 and 1 of GPR[g], and a write of one half keeps the other. -/
theorem sgprMapping : Obligations.SgprMapping := by
  intro s i j g v w
  have hw : (s.setGpr g w).gpr[g] = w := (s.gpr_setGpr g g w).trans (if_pos rfl)
  refine ⟨halfOf_eq _ (Nat.mod_lt _ (by decide)), s.sgpr_setSgpr_same i v, fun h => s.sgpr_setSgpr_other h v, ?_, ?_, ?_⟩
  · rw [s.sgpr_odd, s.sgpr_even, halves_append]
  · rw [State.sgpr_even, hw, halfOf_eq _ (by decide)]
  · rw [State.sgpr_odd, hw, halfOf_eq _ (by decide)]

/-! ### System start -/

theorem started_boot (c : Impl) (m : List Host.Cell) : State.Started (State.boot c m) := ⟨rfl, rfl, rfl, rfl⟩

/-- A started processor has no save set and no pending interrupt, so the invariant asks for its parameters and its memory only. -/
theorem inv_boot {c : Impl} {m : List Host.Cell} (hc : c.wf = true) (hm : Memory.wf m = true) : Inv (State.boot c m) :=
  ⟨hc, hm, Nat.le_refl _, ⟨fun _ => Nat.zero_le _, fun _ => Nat.zero_le _⟩, fun _ hp => absurd hp List.not_mem_nil,
    Nat.two_pow_pos _⟩

/-- Settles O57: a started processor is what `boot` says, for every implementation; the default one is legal. -/
theorem startedState : Obligations.StartedState :=
  ⟨started_boot, started_boot _ _, inv_boot (by decide) rfl, State.isBacked_zero⟩

end Sys2Proof.Machine
end

section
/-! PROOFS. Memory as a string of bits: what the primitives of R90 and R91 and a fetch see after a write (O38, O39, O40). -/

namespace Sys2Proof.UnitSize

theorem octets_le (size : UnitSize) : size.octets ≤ 16 := by cases size <;> decide

/-- An aligned unit lies within one word (R70). -/
theorem within_word (size : UnitSize) {a : Nat} (h : a % size.octets = 0) : a % 16 + size.octets ≤ 16 := by
  cases size <;> simp only [octets] at h ⊢ <;> omega

end Sys2Proof.UnitSize

namespace Sys2Proof.Machine

open Sys2Proof

/-- An address that the implemented bits reach names its own location (R78). -/
theorem trunc_ofNat {c : Impl} {x : Nat} (h : x < 2 ^ c.nMem) (h128 : x < 2 ^ 128) :
    (trunc c (BitVec.ofNat 128 x)).toNat = x := by
  rw [trunc, BitVec.toNat_ofNat, BitVec.toNat_ofNat, Nat.mod_eq_of_lt h128, Nat.mod_eq_of_lt h, Nat.mod_eq_of_lt h128]

theorem backing_of_within {s t : State} (h : State.Within s t) : t.backing = s.backing := by rw [h]

namespace Memory

/-! ### Bits -/

/-- Bit b of memory, the octets one after the other, each from its least significant bit on (R68). -/
def bit (m : List Host.Cell) (b : Nat) : Bool := (read m (b / 8)).getLsbD (b % 8)

theorem getLsbD_read (m : List Host.Cell) (a : Nat) {k : Nat} (hk : k < 8) : (read m a).getLsbD k = bit m (8 * a + k) := by
  rw [bit, show (8 * a + k) / 8 = a by omega, show (8 * a + k) % 8 = k by omega]

/-- A unit at location a is the bits from bit 8 a on. -/
theorem testBit_unit (m : List Host.Cell) (a n k : Nat) :
    (readLE m a n).testBit k = (decide (k < 8 * n) && bit m (8 * a + k)) := by
  rw [testBit_readLE, getLsbD_read m _ (Nat.mod_lt k (by decide)), show 8 * (a + k / 8) + k % 8 = 8 * a + k by omega]

theorem getLsbD_unit (m : List Host.Cell) (a : Nat) {n : Nat} (hn : n ≤ 16) (k : Nat) :
    (BitVec.ofNat 128 (readLE m a n)).getLsbD k = (decide (k < 8 * n) && bit m (8 * a + k)) := by
  rw [BitVec.getLsbD_ofNat, testBit_unit]
  by_cases h : k < 8 * n
  · rw [decide_eq_true (show k < 128 by omega), Bool.true_and]
  · rw [decide_eq_false h, Bool.false_and, Bool.and_false]

theorem getLsbD_readWord (m : List Host.Cell) (w : Nat) {k : Nat} (hk : k < 128) :
    (readWord m w).getLsbD k = bit m (128 * w + k) := by
  rw [readWord, getLsbD_unit m _ (Nat.le_refl 16), decide_eq_true (by omega), Bool.true_and,
    show 8 * (16 * w) + k = 128 * w + k by omega]

/-- Octet i of a number, as a unit holds it. -/
theorem octet_of_toNat (v : Word) (i : Nat) : BitVec.ofNat 8 (v.toNat / 256 ^ i) = v.extractLsb' (8 * i) 8 := by
  rw [BitVec.extractLsb', Nat.shiftRight_eq_div_pow, Nat.pow_mul]

/-- A write of a unit writes its bits, and no others. -/
theorem bit_writeLE (m : List Host.Cell) (a n : Nat) (v : Word) (b : Nat) :
    bit (writeLE m a n v.toNat) b = if 8 * a ≤ b ∧ b < 8 * a + 8 * n then v.getLsbD (b - 8 * a) else bit m b := by
  rw [bit, read_writeLE]
  by_cases h : a ≤ b / 8 ∧ b / 8 < a + n
  · rw [if_pos h, if_pos (by omega), octet_of_toNat, BitVec.getLsbD_extractLsb', decide_eq_true (Nat.mod_lt b (by decide)),
      Bool.true_and, show 8 * (b / 8 - a) + b % 8 = b - 8 * a by omega]
  · rw [if_neg h, if_neg (by omega), bit]

/-- A unit within a word is the word cut down to it (R68). -/
theorem unit_eq_part_of_word (m : List Host.Cell) {a n : Nat} (h : a % 16 + n ≤ 16) :
    readLE m a n = (readWord m (a / 16)).toNat / 2 ^ (8 * (a % 16)) % 2 ^ (8 * n) := by
  apply Nat.eq_of_testBit_eq
  intro k
  rw [testBit_unit, Nat.testBit_mod_two_pow, Nat.testBit_div_two_pow, ← BitVec.getLsbD]
  by_cases hk : k < 8 * n
  · rw [getLsbD_readWord m _ (by omega), show 128 * (a / 16) + (k + 8 * (a % 16)) = 8 * a + k by omega]
  · rw [decide_eq_false hk, Bool.false_and, Bool.false_and]

end Memory

theorem holdsUnit_readLE (s : State) (a : Nat) {n : Nat} (hn : n ≤ 16) :
    HoldsUnit s a n (BitVec.ofNat 128 (Memory.readLE s.mem a n)) := by
  intro i hi
  apply BitVec.eq_of_getLsbD_eq
  intro k hk
  rw [State.octetAt, Memory.getLsbD_read _ _ hk, BitVec.getLsbD_extractLsb', Memory.getLsbD_unit _ _ hn, decide_eq_true hk,
    decide_eq_true (show 8 * i + k < 8 * n by omega), Bool.true_and, Bool.true_and,
    show 8 * (a + i) + k = 8 * a + (8 * i + k) by omega]

namespace State

variable (s : State)

/-! ### Reads and writes by octet address -/

theorem memRead_unaligned {oa : Word} {size : UnitSize} (h : s.octetLocation oa % size.octets ≠ 0) :
    s.memRead oa size = none := by
  simp [memRead, aligned, h]

/-- An aligned unit of a backed location is read as memory holds it. -/
theorem memRead_backed {oa : Word} {size : UnitSize} (h : s.octetLocation oa % size.octets = 0)
    (hb : s.isBacked (s.octetLocation oa / 16) = true) :
    s.memRead oa size =
      some (BitVec.ofNat 128 (Memory.readLE s.mem (s.octetLocation oa) size.octets),
        s.note (.read (s.octetLocation oa / 16))) := by
  simp [memRead, aligned, h, hb]

theorem memRead_unbacked {oa : Word} {size : UnitSize} (h : s.octetLocation oa % size.octets = 0)
    (hb : s.isBacked (s.octetLocation oa / 16) = false) :
    s.memRead oa size =
      some (BitVec.ofNat 128 ((Config.freeWord s.free).toNat % 2 ^ (8 * size.octets)),
        (s.note (.read (s.octetLocation oa / 16))).drawn) := by
  simp [memRead, aligned, h, hb]

theorem memWrite_unaligned {oa : Word} {size : UnitSize} (h : s.octetLocation oa % size.octets ≠ 0) (v : Word) :
    s.memWrite oa size v = none := by
  simp [memWrite, aligned, h]

theorem memWrite_aligned {oa : Word} {size : UnitSize} (h : s.octetLocation oa % size.octets = 0) (v : Word) :
    s.memWrite oa size v = some (s.store (s.octetLocation oa) size.octets v.toNat) := by
  simp [memWrite, aligned, h]

theorem memWrite_eq_some {t : State} {oa v : Word} {size : UnitSize} (h : s.memWrite oa size v = some t) :
    s.octetLocation oa % size.octets = 0 ∧ t = s.store (s.octetLocation oa) size.octets v.toNat := by
  by_cases ha : s.octetLocation oa % size.octets = 0
  · rw [s.memWrite_aligned ha] at h
    exact ⟨ha, (Option.some.inj h).symm⟩
  · rw [s.memWrite_unaligned ha] at h
    cases h

/-! ### What a store leaves of what a read depends on -/

@[simp] theorem store_impl (a n v : Nat) : (s.store a n v).impl = s.impl :=
  impl_of_within (within_store s a n v)

@[simp] theorem store_free (a n v : Nat) : (s.store a n v).free = s.free := by
  rcases s.store_cases a n v with ⟨_, h⟩ | ⟨_, h⟩
  · rw [h]
  · rw [h]; rfl

@[simp] theorem store_backing (a n v : Nat) : (s.store a n v).backing = s.backing :=
  backing_of_within (within_store s a n v)

@[simp] theorem isBacked_store (a n v w : Nat) : (s.store a n v).isBacked w = s.isBacked w := by
  simp only [isBacked, store_backing]

@[simp] theorem octetLocation_store (a n v : Nat) (oa : Word) : (s.store a n v).octetLocation oa = s.octetLocation oa := by
  simp only [octetLocation, store_impl]

@[simp] theorem wordLocation_store (a n v : Nat) (wa : Word) : (s.store a n v).wordLocation wa = s.wordLocation wa := by
  simp only [wordLocation, store_impl]

theorem store_backed {a n v : Nat} (h : s.isBacked (a / 16) = true) :
    s.store a n v =
      ((s.setStale (s.superseded (a / 16))).setMem (Memory.writeLE s.mem a n v)).note (.write (a / 16)) := by
  rcases s.store_cases a n v with ⟨hb, _⟩ | ⟨_, h⟩
  · rw [h] at hb; cases hb
  · exact h

theorem store_unbacked {a n v : Nat} (h : s.isBacked (a / 16) = false) : s.store a n v = s := by
  rcases s.store_cases a n v with ⟨_, h⟩ | ⟨hb, _⟩
  · exact h
  · rw [h] at hb; cases hb

theorem store_mem {a n v : Nat} (h : s.isBacked (a / 16) = true) : (s.store a n v).mem = Memory.writeLE s.mem a n v := by
  rw [s.store_backed h]; rfl

theorem memWriteW_eq (wa v : Word) : s.memWriteW wa v = s.store (16 * s.wordLocation wa) 16 v.toNat := rfl

theorem memWriteW_mem {wa : Word} (v : Word) (h : s.isBacked (s.wordLocation wa) = true) :
    (s.memWriteW wa v).mem = Memory.writeWord s.mem (s.wordLocation wa) v := by
  rw [memWriteW_eq, store_mem _ (by rw [Nat.mul_div_cancel_left _ (by decide)]; exact h), Memory.writeWord]

theorem memReadW_backed {wa : Word} (h : s.isBacked (s.wordLocation wa) = true) :
    s.memReadW wa = (Memory.readWord s.mem (s.wordLocation wa), s.note (.read (s.wordLocation wa))) := by
  simp only [memReadW, h, if_true]

/-- What a word read answers. -/
theorem memReadW_fst (wa : Word) :
    (s.memReadW wa).1 =
      if s.isBacked (s.wordLocation wa) = true then Memory.readWord s.mem (s.wordLocation wa) else Config.freeWord s.free := by
  rcases s.memReadW_cases wa with ⟨hb, h⟩ | ⟨hb, h⟩ <;> rw [h, hb] <;> rfl

/-- The value that a read by octet address answers depends on the unit's octets, after a store as before. -/
theorem memRead_store_congr {a n v : Nat} {oa : Word} {size : UnitSize}
    (h : s.octetLocation oa % size.octets = 0 → s.isBacked (s.octetLocation oa / 16) = true →
      Memory.readLE (s.store a n v).mem (s.octetLocation oa) size.octets =
        Memory.readLE s.mem (s.octetLocation oa) size.octets) :
    ((s.store a n v).memRead oa size).map Prod.fst = (s.memRead oa size).map Prod.fst := by
  by_cases ha : s.octetLocation oa % size.octets = 0
  · cases hb : s.isBacked (s.octetLocation oa / 16) with
    | true =>
      rw [memRead_backed _ (by simpa using ha) (by simpa using hb), memRead_backed _ ha hb]
      simp only [Option.map_some, octetLocation_store, h ha hb]
    | false =>
      rw [memRead_unbacked _ (by simpa using ha) (by simpa using hb), memRead_unbacked _ ha hb]
      simp only [Option.map_some, store_free]
  · rw [memRead_unaligned _ (by simpa using ha), memRead_unaligned _ ha]

/-- A store at an unbacked location does not change what is read; at a backed one it changes the units it overlaps. -/
theorem memRead_store_disjoint {a n v : Nat} {oa : Word} {size : UnitSize}
    (h : s.octetLocation oa % size.octets = 0 → a + n ≤ s.octetLocation oa ∨ s.octetLocation oa + size.octets ≤ a) :
    ((s.store a n v).memRead oa size).map Prod.fst = (s.memRead oa size).map Prod.fst := by
  apply s.memRead_store_congr
  intro ha _
  rcases s.store_cases a n v with ⟨_, hs⟩ | ⟨_, hs⟩ <;> rw [hs]
  exact Memory.readLE_writeLE_disjoint n _ s.mem a _ v (h ha)

/-! ### A read after a write, by either scheme -/

/-- A unit written is read back, cut to its size. -/
theorem memRead_store_same {oa : Word} {size : UnitSize} (ha : s.octetLocation oa % size.octets = 0)
    (hb : s.isBacked (s.octetLocation oa / 16) = true) (v : Word) :
    (s.store (s.octetLocation oa) size.octets v.toNat).memRead oa size =
      some (v &&& lowMask (8 * size.octets),
        (s.store (s.octetLocation oa) size.octets v.toNat).note (.read (s.octetLocation oa / 16))) := by
  have hval : BitVec.ofNat 128 (Memory.readLE (Memory.writeLE s.mem (s.octetLocation oa) size.octets v.toNat)
      (s.octetLocation oa) size.octets) = v &&& lowMask (8 * size.octets) := by
    apply BitVec.eq_of_getLsbD_eq
    intro k hk
    rw [Memory.getLsbD_unit _ _ size.octets_le, Memory.bit_writeLE, BitVec.getLsbD_and, getLsbD_lowMask, decide_eq_true hk,
      Bool.and_true, Nat.add_sub_cancel_left, Bool.and_comm]
    by_cases h : k < 8 * size.octets
    · rw [if_pos (by omega)]
    · rw [decide_eq_false h, Bool.and_false, Bool.and_false]
  rw [memRead_backed _ (by simpa using ha) (by simpa using hb), octetLocation_store, s.store_mem hb, hval]

/-- A word written is read back, and every other reads as before. -/
theorem memReadW_memWriteW {wa : Word} (hb : s.isBacked (s.wordLocation wa) = true) (v wb : Word) :
    ((s.memWriteW wa v).memReadW wb).1 = if s.wordLocation wb = s.wordLocation wa then v else (s.memReadW wb).1 := by
  rw [memReadW_fst, memReadW_fst, s.memWriteW_mem v hb, s.memWriteW_eq, wordLocation_store, isBacked_store, store_free]
  by_cases h : s.wordLocation wb = s.wordLocation wa
  · rw [if_pos h, h, if_pos hb, Memory.readWord_writeWord]
  · rw [if_neg h, Memory.readWord_writeWord_other _ _ h]

/-- A unit within a word that was written is that part of it. -/
theorem memRead_memWriteW {wa oa : Word} {size : UnitSize} (hb : s.isBacked (s.wordLocation wa) = true)
    (hin : s.octetLocation oa / 16 = s.wordLocation wa) (ha : s.octetLocation oa % size.octets = 0) (v : Word) :
    ∃ r u, (s.memWriteW wa v).memRead oa size = some (r, u) ∧
      ∀ k, r.getLsbD k = (decide (k < 8 * size.octets) && v.getLsbD (8 * (s.octetLocation oa % 16) + k)) := by
  refine ⟨_, _, memRead_backed _ (by simpa [memWriteW_eq] using ha) (by simpa [memWriteW_eq, hin] using hb), fun k => ?_⟩
  have hword := size.within_word ha
  rw [s.memWriteW_mem v hb, s.memWriteW_eq, octetLocation_store, Memory.getLsbD_unit _ _ size.octets_le, Memory.writeWord,
    Memory.bit_writeLE]
  by_cases h : k < 8 * size.octets
  · rw [if_pos (by omega), show 8 * s.octetLocation oa + k - 8 * (16 * s.wordLocation wa) =
      8 * (s.octetLocation oa % 16) + k by omega]
  · rw [decide_eq_false h, Bool.false_and, Bool.false_and]

/-- A word around a unit that was written: the unit's bits are new. -/
theorem getLsbD_memReadW_store {oa : Word} {size : UnitSize} (ha : s.octetLocation oa % size.octets = 0)
    (hb : s.isBacked (s.octetLocation oa / 16) = true) (v wb : Word) {k : Nat} (hk : k < 128) :
    ((s.store (s.octetLocation oa) size.octets v.toNat).memReadW wb).1.getLsbD k =
      if s.wordLocation wb = s.octetLocation oa / 16 ∧ 8 * (s.octetLocation oa % 16) ≤ k ∧
          k < 8 * (s.octetLocation oa % 16) + 8 * size.octets then
        v.getLsbD (k - 8 * (s.octetLocation oa % 16))
      else (s.memReadW wb).1.getLsbD k := by
  have hword := size.within_word ha
  rw [memReadW_fst, memReadW_fst, s.store_mem hb, wordLocation_store, isBacked_store, store_free]
  cases hbw : s.isBacked (s.wordLocation wb) with
  | true =>
    rw [if_pos rfl, if_pos rfl, Memory.getLsbD_readWord _ _ hk, Memory.getLsbD_readWord _ _ hk, Memory.bit_writeLE]
    by_cases h : s.wordLocation wb = s.octetLocation oa / 16 ∧ 8 * (s.octetLocation oa % 16) ≤ k ∧
        k < 8 * (s.octetLocation oa % 16) + 8 * size.octets
    · rw [if_pos h, if_pos (by omega), show 128 * s.wordLocation wb + k - 8 * s.octetLocation oa =
        k - 8 * (s.octetLocation oa % 16) by omega]
    · rw [if_neg h, if_neg (by omega)]
  | false =>
    have hne : s.wordLocation wb ≠ s.octetLocation oa / 16 := fun h => by rw [h, hb] at hbw; cases hbw
    simp only [Bool.false_eq_true, if_false, hne, false_and]

/-! ### A fetch -/

/-- A fetch of a backed word sees what memory holds, or content that a store replaced (R107, R164). -/
theorem fetch_sees {a : Word} (hb : s.isBacked (s.wordLocation a) = true) :
    (s.fetch a).1 = Memory.readWord s.mem (s.wordLocation a) ∨ (s.fetch a).1 ∈ s.oldContents (s.wordLocation a) := by
  cases ho : s.oldContents (s.wordLocation a) with
  | nil => rw [fetch_backed hb ho]; exact .inl rfl
  | cons w old =>
    simp only [fetch, hb, ho, if_true]
    rw [List.getD_eq_getElem _ _ (by simp only [List.length_cons]; exact Nat.mod_lt _ (by omega))]
    exact List.mem_cons.mp (List.getElem_mem _)

theorem oldContents_coherent (h : s.impl.ifetchCoherent = true) (w : Nat) : s.oldContents w = [] := by
  rw [oldContents, if_pos h]

/-- What a store of a word adds to what a fetch may still see there: the content it replaced. -/
theorem mem_oldContents_memWriteW {wa v x : Word} (hb : s.isBacked (s.wordLocation wa) = true)
    (h : x ∈ (s.memWriteW wa v).oldContents (s.wordLocation wa)) :
    x = Memory.readWord s.mem (s.wordLocation wa) ∨ x ∈ s.oldContents (s.wordLocation wa) := by
  have hw : 16 * s.wordLocation wa / 16 = s.wordLocation wa := Nat.mul_div_cancel_left _ (by decide)
  cases hc : s.impl.ifetchCoherent with
  | true =>
    rw [oldContents_coherent _ (by rw [memWriteW_eq, store_impl]; exact hc)] at h
    cases h
  | false =>
    rw [memWriteW_eq, store_backed _ (by rw [hw]; exact hb)] at h
    simpa [oldContents, superseded, hc, hw] using h

end State

/-! ### The statements -/

/-- Settles O38: a unit is the bits of memory from its location on, and a unit that is aligned lies within one word. -/
theorem littleEndianViews : Obligations.LittleEndianViews := by
  refine ⟨fun s oa size ha hb => ⟨_, _, s.memRead_backed ha hb, holdsUnit_readLE s _ size.octets_le, ?_⟩,
    fun s w hw hn hb => ?_⟩
  · have hlt : Memory.readLE s.mem (s.octetLocation oa) size.octets < 2 ^ 128 :=
      Nat.lt_of_lt_of_le (Memory.readLE_lt _ _ _) (Nat.pow_le_pow_right (by decide) size.octets_le)
    rw [BitVec.toNat_ofNat, Nat.mod_eq_of_lt hlt]
    exact Memory.unit_eq_part_of_word s.mem (size.within_word ha)
  · have hlt : 16 * w < 2 ^ 128 := Nat.lt_of_lt_of_le hw (Nat.pow_le_pow_right (by decide) hn)
    have ho : s.octetLocation (BitVec.ofNat 128 (16 * w)) = 16 * w := trunc_ofNat hw hlt
    have hwl : s.wordLocation (BitVec.ofNat 128 w) = w := trunc_ofNat (by omega) (by omega)
    have hdiv : 16 * w / 16 = w := Nat.mul_div_cancel_left _ (by decide)
    have hread : s.memRead (BitVec.ofNat 128 (16 * w)) .word = some (Memory.readWord s.mem w, s.note (.read w)) := by
      rw [s.memRead_backed (by rw [ho]; exact Nat.mul_mod_right 16 w) (by rw [ho, hdiv]; exact hb), ho, hdiv]
      rfl
    have hreadW := s.memReadW_backed (wa := BitVec.ofNat 128 w) (by rw [hwl]; exact hb)
    rw [hwl] at hreadW
    exact ⟨_, _, _, hread, hreadW, holdsUnit_readLE s _ (Nat.le_refl 16)⟩

/-- Settles O39: both schemes read and write the same bits of memory, so that what a read sees of a write is where the two ranges of bits
overlap; and a store changes neither the locations that addresses name nor the unpredictable value read where nothing is backed. -/
theorem readAfterWrite : Obligations.ReadAfterWrite := by
  refine ⟨fun s t oa ob size size' v hb hw => ?_, fun s wa wb v hb => ?_,
    fun s wa oa v size hb => ⟨fun hin ha => ?_, fun hout => ?_⟩, fun s t oa wb v size hb hw => ?_,
    fun s a v size => ⟨fun hb => ?_, fun hb ha => ?_⟩⟩
  · obtain ⟨ha, rfl⟩ := s.memWrite_eq_some hw
    exact ⟨⟨_, s.memRead_store_same ha hb v⟩, fun hd => s.memRead_store_disjoint fun _ => hd⟩
  · exact s.memReadW_memWriteW hb v wb
  · exact s.memRead_memWriteW hb hin ha v
  · exact s.memRead_store_disjoint fun ha => by have := size.within_word ha; omega
  · obtain ⟨ha, rfl⟩ := s.memWrite_eq_some hw
    exact fun k hk => s.getLsbD_memReadW_store ha hb v wb hk
  · exact s.store_unbacked (by rw [Nat.mul_div_cancel_left _ (by decide)]; exact hb)
  · rw [s.memWrite_aligned ha, s.store_unbacked hb]

/-- Settles O40: memory holds the stored word, and what else a fetch may see is what the store replaced or what could be seen before;
nothing where the instruction stream is coherent. -/
theorem fetchAfterStore : Obligations.FetchAfterStore := by
  intro s wa v hb
  have hloc : (s.memWriteW wa v).wordLocation wa = s.wordLocation wa := s.wordLocation_store _ _ _ _
  have hbt : (s.memWriteW wa v).isBacked ((s.memWriteW wa v).wordLocation wa) = true := by
    rw [hloc, s.memWriteW_eq, State.isBacked_store]; exact hb
  have hnew : Memory.readWord (s.memWriteW wa v).mem ((s.memWriteW wa v).wordLocation wa) = v := by
    rw [hloc, s.memWriteW_mem v hb, Memory.readWord_writeWord]
  refine ⟨fun hc => ?_, ?_⟩
  · rw [State.fetch_backed hbt (State.oldContents_coherent _ (by rw [s.memWriteW_eq, State.store_impl]; exact hc) _), hnew]
  · rcases State.fetch_sees _ hbt with h | h
    · exact .inl (h.trans hnew)
    · rw [hloc] at h
      exact .inr (s.mem_oldContents_memWriteW hb h)

end Sys2Proof.Machine
end

section
/-! PROOFS. An instruction that OPL allows is concluded with its effect; the exception of an unaligned address (O35), and coherence
enforced (O52). -/

namespace Sys2Proof.Machine

open Sys2Proof

/-! ### Step 9 for each class -/

section

variable {s : State}

theorem exec_loadWord_allowed {o : LoadWord} (hp : o.priv ≤ s.opl) :
    exec (.loadWordAddressed o) s = .next (s.conclude (loadWordFlow o) (loadWordEffect o s)) :=
  congrArg Host.Outcome.next (s.attempt_allowed _ (loadWordEffect o) hp)

theorem exec_loadOctet_allowed {o : LoadOctet} (hp : o.priv ≤ s.opl) :
    exec (.loadOctetAddressed o) s = .next (s.conclude (loadOctetFlow o) (loadOctetEffect o s)) :=
  congrArg Host.Outcome.next (s.attempt_allowed _ (loadOctetEffect o) hp)

theorem exec_storeWord_allowed {o : StoreWord} (hp : o.priv ≤ s.opl) :
    exec (.storeWordAddressed o) s = .next (s.conclude (storeWordFlow o) (storeWordEffect o s)) :=
  congrArg Host.Outcome.next (s.attempt_allowed _ (storeWordEffect o) hp)

theorem exec_storeOctet_allowed {o : StoreOctet} (hp : o.priv ≤ s.opl) :
    exec (.storeOctetAddressed o) s = .next (s.conclude (storeOctetFlow o) (storeOctetEffect o s)) :=
  congrArg Host.Outcome.next (s.attempt_allowed _ (storeOctetEffect o) hp)

theorem exec_storeAtomic_allowed {o : StoreAtomic} (hp : o.priv ≤ s.opl) :
    exec (.storeAtomic o) s = .next (s.conclude (storeAtomicFlow o) (storeAtomicEffect o s)) :=
  congrArg Host.Outcome.next (s.attempt_allowed _ (storeAtomicEffect o) hp)

theorem exec_vector_allowed {o : VectorClass} (hp : o.priv ≤ s.opl) :
    exec (.vector o) s = .next (s.conclude (vectorFlow o) (vectorEffect o s)) :=
  congrArg Host.Outcome.next (s.attempt_allowed _ (vectorEffect o) hp)

theorem exec_elementExtract_allowed {o : ElementExtract} (hp : o.priv ≤ s.opl) :
    exec (.elementExtract o) s = .next (s.conclude (elementExtractFlow o) (elementExtractEffect o s)) :=
  congrArg Host.Outcome.next (s.attempt_allowed _ (elementExtractEffect o) hp)

theorem exec_elementDeposit_allowed {o : ElementDeposit} (hp : o.priv ≤ s.opl) :
    exec (.elementDeposit o) s = .next (s.conclude (elementDepositFlow o) (elementDepositEffect o s)) :=
  congrArg Host.Outcome.next (s.attempt_allowed _ (elementDepositEffect o) hp)

theorem exec_controlFlow_allowed {o : ControlFlow} (hp : o.priv ≤ s.opl) :
    exec (.controlFlow o) s = .next (s.conclude (controlFlowFlow o) (controlFlowEffect o s)) :=
  congrArg Host.Outcome.next (s.attempt_allowed _ (controlFlowEffect o) hp)

theorem exec_privilegedState_allowed {o : PrivilegedState} (hp : privLevel o.op ≤ s.opl) :
    exec (.privilegedState o) s = .next (s.conclude (privilegedFlow o) (privilegedEffect o s)) :=
  congrArg Host.Outcome.next (s.attempt_allowed _ (privilegedEffect o) hp)

end

/-! ### An exception of the instruction's own -/

theorem sameRegisters_of_eq {s t : State} (hg : t.gpr = s.gpr) (hr : t.rnr = s.rnr) (hc : t.cr = s.cr) : SameRegisters s t :=
  ⟨fun _ => by rw [hg], fun _ => by rw [hr], fun _ => by rw [hc]⟩

/-- The free values that the instruction drew, and the dependences of its exception, are all that entry finds changed. -/
theorem tookException_trapEntry (s : State) (n : Nat) (d : Dependences) (x : ExcId) (p : Nat) :
    TookException x p s (((s.setFree n).setDepend d).trapEntry x p) := by
  have hsave : ∀ q, (((s.setFree n).setDepend d).trapEntry x p).esaveAt q =
      if q = p then ⟨s.opl, s.ipmar, s.iidx, s.impl.ceid.of x⟩ else s.esaveAt q := State.esaveAt_trapEntry _ x p
  refine ⟨(hsave p).trans (if_pos rfl), fun q hq => (hsave q).trans (if_neg hq), ?_⟩
  rw [State.trapEntry_eq]
  exact ⟨rfl, rfl, ⟨rfl, rfl, rfl⟩, sameRegisters_of_eq rfl rfl rfl, ⟨fun _ => rfl, rfl, rfl⟩, ⟨rfl, rfl⟩, rfl, rfl,
    fun _ => rfl, fun _ => rfl, fun _ => rfl⟩

/-- An instruction that raises an exception takes it from the state it began in (R177, R305). -/
theorem tookException_conclude (s t : State) (w : Flow) (x : ExcId) (p : Nat) :
    TookException x p s (s.conclude w ⟨t, .exception x p⟩) := by
  change TookException x p s ((s.abandon w t).trapEntry x p)
  rw [s.abandon_eq]
  exact tookException_trapEntry s _ _ x p

/-- With the levels of the base architecture an unaligned address is an exception of level 1 (R311). -/
theorem tookException_unalignedAddress {s : State} (h : BaseLevels s) (w : Flow) :
    TookException .unalignedPrimaryMemoryAddress 1 s (s.conclude w (unalignedAddress s)) := by
  have hlevel : s.impl.levelOf s.opl .unalignedPrimaryMemoryAddress = 1 := congrArg ExcLevels.unalignedPrimaryMemoryAddress h
  rw [unalignedAddress, hlevel]
  exact tookException_conclude s s w _ 1

theorem loadOctetEffect_unaligned {o : LoadOctet} {s : State} (h : s.octetLocation (s.address o.addr) % o.size.octets ≠ 0) :
    loadOctetEffect o s = unalignedAddress s := by
  rw [loadOctetEffect, s.memRead_unaligned h]

theorem storeOctetEffect_unaligned {o : StoreOctet} {s : State}
    (h : s.octetLocation (s.address o.addr) % o.size.octets ≠ 0) : storeOctetEffect o s = unalignedAddress s := by
  rw [storeOctetEffect, s.memWrite_unaligned h]

theorem storeAtomicEffect_unaligned {o : StoreAtomic} {s : State} (h : atomicLocation o s % atomicOctets o ≠ 0) :
    storeAtomicEffect o s = unalignedAddress s := by
  simp [storeAtomicEffect, aligned, h]

/-- Settles O35: none of the three effects gets to memory, whose state decides nothing about the exception. -/
theorem unalignedAddressTraps : Obligations.UnalignedAddressTraps := by
  refine fun s hlevels => ⟨fun o hp ha => ?_, fun o hp ha => ?_, fun o size addr htarget hp ha => ?_⟩
  · refine ⟨_, exec_loadOctet_allowed hp, ?_⟩
    rw [loadOctetEffect_unaligned ha]
    exact tookException_unalignedAddress hlevels _
  · refine ⟨_, exec_storeOctet_allowed hp, ?_⟩
    rw [storeOctetEffect_unaligned ha]
    exact tookException_unalignedAddress hlevels _
  · refine ⟨_, exec_storeAtomic_allowed hp, ?_⟩
    rw [storeAtomicEffect_unaligned (by simp only [atomicLocation, atomicOctets, htarget]; exact ha)]
    exact tookException_unalignedAddress hlevels _

/-! ### Coherence -/

theorem State.oldContents_of_stale_nil {s : State} (h : s.stale = []) (w : Nat) : s.oldContents w = [] := by
  simp [oldContents, h]

/-- Settles O52: with no superseded content left a fetch has the memory's content only to see. -/
theorem coherenceEnforcementCompletes : Obligations.CoherenceEnforcementCompletes := by
  intro s hp
  refine ⟨_, exec_privilegedState_allowed hp, ?_⟩
  have hadv : Advanced (s.setStale []) (s.setStale []).advance := advanced_advance _
  simp only [privilegedEffect, State.conclude_next]
  rw [State.advance_eq] at hadv ⊢
  exact ⟨fun wa hb => State.fetch_backed hb (State.oldContents_of_stale_nil rfl _), fun _ => rfl, rfl, sameRegisters_of_eq rfl rfl rfl,
    ⟨rfl, rfl, ⟨fun _ => rfl, fun _ => rfl, fun _ => rfl, fun _ => rfl⟩, rfl⟩, ⟨rfl, rfl⟩, rfl, hadv⟩

end Sys2Proof.Machine
end

section
/-! PROOFS. What one event from outside does between two steps (O43). -/

namespace Sys2Proof.Machine

open Sys2Proof

/-! ### Interrupts -/

/-- An interrupt of a level that exists joins those pending, unless it is dropped or there is no room (R332, D18). -/
theorem xpendAfter_joins {s : State} {p : Nat} (h1 : 1 ≤ p) (hp : p ≤ s.impl.plMax)
    (hheld : s.xie = true ∨ s.impl.xpendPolicy = .held)
    (hroom : ∀ n, s.impl.xpendCapacity = some n → s.xpend.length < n) : xpendAfter s p = p :: s.xpend := by
  have hnotDropped : (!s.xie && s.impl.xpendPolicy == .dropped) = false := by
    rcases hheld with h | h <;> rw [h]
    · rfl
    · exact Bool.and_false _
  simp only [xpendAfter, h1, hp, decide_true, Bool.and_true, Bool.not_true, Bool.false_eq_true, if_false, hnotDropped]
  cases hc : s.impl.xpendCapacity with
  | none => rfl
  | some n => exact if_pos (hroom n hc)

/-- Otherwise the pending set stays as it is. -/
theorem xpendAfter_stays {s : State} {p : Nat}
    (h : p = 0 ∨ s.impl.plMax < p ∨ (s.xie = false ∧ s.impl.xpendPolicy = .dropped) ∨
      ∃ n, s.impl.xpendCapacity = some n ∧ n ≤ s.xpend.length) : xpendAfter s p = s.xpend := by
  unfold xpendAfter
  split
  · rfl
  · next hlevel =>
    simp only [Bool.not_eq_true', Bool.and_eq_false_iff, decide_eq_false_iff_not] at hlevel
    split
    · rfl
    · next hdrop =>
      rcases h with h | h | ⟨hx, hd⟩ | ⟨n, hn, hfull⟩
      · omega
      · omega
      · exact absurd (by rw [hx, hd]; rfl) hdrop
      · rw [hn]
        exact if_neg (Nat.not_lt.mpr hfull)

/-! ### Backing -/

/-- What the newest statement about a range says of each location; word 0 is backed whatever it says (R81, R83). -/
theorem isBacked_cons (s : State) (r : Backing) (w : Nat) :
    (s.setBacking (r :: s.backing)).isBacked w =
      (w == 0 || if r.first ≤ w ∧ w ≤ r.last then r.backed else s.isBacked w) := by
  by_cases hw : w = 0
  · subst hw; rfl
  · by_cases h : r.first ≤ w ∧ w ≤ r.last
    · simp [State.isBacked, h]
    · have : (decide (r.first ≤ w) && decide (w ≤ r.last)) = false := by simpa using h
      simp [State.isBacked, h, this]

theorem isBacked_unbacked (s : State) (first last w : Nat) :
    (applyEvent (.unbacked first last) s).isBacked w =
      if w ≠ 0 ∧ first ≤ w ∧ w ≤ last then false else s.isBacked w := by
  refine (isBacked_cons s ⟨first, last, false⟩ w).trans ?_
  by_cases hw : w = 0
  · subst hw
    simp [s.isBacked_zero]
  · simp only [beq_false_of_ne hw, Bool.false_or, ne_eq, hw, not_false_eq_true, true_and]

/-- A location that is backed already does not become so. -/
theorem applyEvent_backed_idle {s : State} {w : Nat} (h : s.isBacked w = true) : applyEvent (.backed w) s = s := by
  simp only [applyEvent, h, Bool.true_or, if_true]

theorem applyEvent_backed_new {s : State} {w : Nat} (h : s.isBacked w = false) (hw : w < 2 ^ s.impl.nMem) :
    applyEvent (.backed w) s =
      ((s.setBacking (⟨w, w, true⟩ :: s.backing)).setMem (Memory.writeWord s.mem w (Config.freeWord s.free))).drawn := by
  simp only [applyEvent, h, hw, decide_true, Bool.not_true, Bool.or_self, Bool.false_eq_true, if_false]

theorem isBacked_backed {s : State} {w : Nat} (hw : w < 2 ^ s.impl.nMem) (v : Nat) :
    (applyEvent (.backed w) s).isBacked v = if v = w then true else s.isBacked v := by
  cases hb : s.isBacked w with
  | true =>
    rw [applyEvent_backed_idle hb]
    by_cases hv : v = w
    · rw [if_pos hv, hv, hb]
    · rw [if_neg hv]
  | false =>
    rw [applyEvent_backed_new hb hw]
    refine (isBacked_cons s ⟨w, w, true⟩ v).trans ?_
    by_cases hv : v = w
    · rw [if_pos hv, if_pos (by simp only; omega), Bool.or_true]
    · rw [if_neg hv, if_neg (by simp only; omega)]
      by_cases h0 : v = 0
      · rw [h0, s.isBacked_zero, Bool.or_true]
      · rw [beq_false_of_ne h0, Bool.false_or]

theorem octetAt_backed {s : State} {w : Nat} (hw : w < 2 ^ s.impl.nMem) {a : Nat}
    (h : s.isBacked w = true ∨ a < 16 * w ∨ 16 * w + 16 ≤ a) : (applyEvent (.backed w) s).octetAt a = s.octetAt a := by
  cases hb : s.isBacked w with
  | true => rw [applyEvent_backed_idle hb]
  | false =>
    rw [hb] at h
    rw [applyEvent_backed_new hb hw]
    exact Memory.read_writeLE_outside 16 s.mem (16 * w) _ (h.resolve_left Bool.false_ne_true)

/-! ### Accesses of other initiators -/

section

variable {s : State} {who : Initiator}

theorem applyEvent_accessed (h : foreign s.impl who = true) (f : ForeignAccess) :
    applyEvent (.accessed who f) s = foreignAccess s who f := if_pos h

theorem foreignAligned_of_aligned {oa : Word} {size : UnitSize} (h : location s.impl who oa % size.octets = 0)
    (f : Nat → State) : foreignAligned s who oa size f = f (location s.impl who oa) := by
  simp [foreignAligned, aligned, h]

theorem foreignAligned_of_unaligned {oa : Word} {size : UnitSize} (h : location s.impl who oa % size.octets ≠ 0)
    (f : Nat → State) : foreignAligned s who oa size f = s := by
  simp [foreignAligned, aligned, h]

theorem foreignWrite_unbacked {a : Nat} (h : s.isBacked (a / 16) = false) (n v : Nat) (c : Consumed) :
    foreignWrite s who a n v c = s := by
  simp [foreignWrite, h]

/-- A write of another initiator to a backed location: the unit and nothing else of memory, one event, and what it depends on. -/
theorem foreignWrite_backed {a : Nat} (h : s.isBacked (a / 16) = true) (n : Nat) (v : Word) (c : Consumed) :
    HoldsUnit (foreignWrite s who a n v.toNat c) a n v ∧ OnlyOctets true a n s (foreignWrite s who a n v.toNat c) ∧
      (foreignWrite s who a n v.toNat c).trace = ⟨who, .write (a / 16)⟩ :: s.trace ∧
      (foreignWrite s who a n v.toNat c).consumedBy s.trace.length = c := by
  have hoctet : ∀ b, (foreignWrite s who a n v.toNat c).octetAt b =
      if s.isBacked (a / 16) = true ∧ a ≤ b ∧ b < a + n then BitVec.ofNat 8 (v.toNat / 256 ^ (b - a)) else s.octetAt b := by
    intro b
    rw [← State.octetAt_put, foreignWrite, if_pos h]
    rfl
  have hput : s.put a n v.toNat = (s.setStale (s.superseded (a / 16))).setMem (Memory.writeLE s.mem a n v.toNat) := if_pos h
  refine ⟨fun i hi => ?_, ⟨fun b hb => ?_, ?_⟩, ?_, ?_⟩
  · rw [hoctet, if_pos ⟨h, by omega, by omega⟩, Nat.add_sub_cancel_left, Memory.octet_of_toNat]
  · have hout : b < a ∨ a + n ≤ b := hb.resolve_left (Bool.false_ne_true ·.symm)
    rw [hoctet, if_neg (by omega)]
  · rw [foreignWrite, if_pos h, hput]; rfl
  · rw [foreignWrite, if_pos h, hput]; rfl
  · rw [foreignWrite, if_pos h]; simp [State.consumedBy]

end

/-- The address bits of an agent are those listed for it, else the system's (R77, R79). -/
theorem addressBits_agent (c : Impl) (k : Nat) :
    ((∀ n, (k, n) ∉ c.agentBits) → addressBits c (.agent k) = c.nMem) ∧
    ((c.agentBits.map Prod.fst).Nodup → ∀ n, (k, n) ∈ c.agentBits → addressBits c (.agent k) = n) := by
  cases hf : c.agentBits.find? fun p => p.1 == k with
  | none =>
    have hnone : ∀ n, (k, n) ∉ c.agentBits := fun n hn => by simpa using List.find?_eq_none.mp hf _ hn
    exact ⟨fun _ => by simp only [addressBits, hf], fun _ n hn => absurd hn (hnone n)⟩
  | some p =>
    obtain ⟨k', m⟩ := p
    have hk : k' = k := by simpa using List.find?_some hf
    subst hk
    have hm : (k', m) ∈ c.agentBits := List.mem_of_find?_eq_some hf
    refine ⟨fun h => absurd hm (h m), fun hnodup n hn => ?_⟩
    simp only [addressBits, hf]
    exact congrArg Prod.snd (List.inj_on_of_nodup_map hnodup hm hn rfl)

/-! ### Every event -/

/-- Everything an event from outside can write: what is pending and sent, memory and what is known of it, the record. -/
theorem applyEvent_eq (e : EnvEvent) (s : State) :
    applyEvent e s =
      { s with
        xpend := (applyEvent e s).xpend, mem := (applyEvent e s).mem, backing := (applyEvent e s).backing,
        stale := (applyEvent e s).stale, outbox := (applyEvent e s).outbox, trace := (applyEvent e s).trace,
        depend := (applyEvent e s).depend, free := (applyEvent e s).free } := by
  cases e with
  | interruptArrives p => rfl
  | accessed who a =>
    simp only [applyEvent]
    split
    · rw [s.foreignAccess_eq]
    · rfl
  | unbacked first last => rfl
  | backed w =>
    simp only [applyEvent]
    split <;> rfl
  | sentTaken n => rfl

theorem applyEvent_frame (e : EnvEvent) (s : State) :
    SameRegisters s (applyEvent e s) ∧ (applyEvent e s).ipmar = s.ipmar ∧ (applyEvent e s).iidx = s.iidx ∧
      (applyEvent e s).entry = s.entry ∧ (applyEvent e s).opl = s.opl ∧ (applyEvent e s).xie = s.xie ∧
      SameLevelState s (applyEvent e s) ∧ (applyEvent e s).impl = s.impl := by
  rw [applyEvent_eq]
  exact ⟨sameRegisters_of_eq rfl rfl rfl, rfl, rfl, rfl, rfl, rfl, ⟨fun _ => rfl, fun _ => rfl, fun _ => rfl, fun _ => rfl⟩, rfl⟩

/-- Settles O43: event by event; a STORE ATOMIC of another initiator is its write, or nothing. -/
theorem eventsFromOutside : Obligations.EventsFromOutside := by
  refine ⟨fun s p => ⟨fun h => ?_, fun h => ?_⟩, fun s first last w => ⟨isBacked_unbacked s first last w, fun _ => rfl⟩,
    fun s w hw => ⟨isBacked_backed hw, fun a => octetAt_backed hw⟩, fun s n => ⟨rfl, rfl, fun _ => rfl, rfl, rfl⟩,
    fun s who f hf => if_neg (by rw [hf]; exact Bool.false_ne_true), fun s who wa v c sel hf => ?_,
    fun s who oa v size c hf => ?_, fun c k => ⟨rfl, addressBits_agent c k⟩, applyEvent_frame⟩
  · obtain ⟨h1, hp, hheld, hroom⟩ := h
    exact congrArg s.setXpend (xpendAfter_joins h1 hp hheld hroom)
  · exact congrArg s.setXpend (xpendAfter_stays h)
  · simp only [applyEvent_accessed hf]
    have hdiv : 16 * location s.impl who wa / 16 = location s.impl who wa := Nat.mul_div_cancel_left _ (by decide)
    refine ⟨fun hb => ?_, fun hb => foreignWrite_unbacked (by rw [hdiv]; exact hb) _ _ _, rfl, rfl, rfl, rfl⟩
    have h := foreignWrite_backed (who := who) (by rw [hdiv]; exact hb) 16 v c
    rw [hdiv] at h
    exact h
  · simp only [applyEvent_accessed hf]
    refine ⟨fun ha hb => ?_, fun h => ?_, rfl, rfl, ?_⟩
    · rw [foreignAccess, foreignAligned_of_aligned ha]
      exact foreignWrite_backed hb size.octets v c
    · by_cases ha : location s.impl who oa % size.octets = 0
      · rw [foreignAccess, foreignAligned_of_aligned ha]
        exact foreignWrite_unbacked (h.resolve_left fun hne => hne ha) _ _ _
      · rw [foreignAccess, foreignAligned_of_unaligned ha]
    · by_cases ha : location s.impl who oa % size.octets = 0
      · rw [foreignAccess, foreignAligned_of_aligned ha]
        exact (if_pos ha).symm
      · rw [foreignAccess, foreignAligned_of_unaligned ha]
        exact (if_neg ha).symm

end Sys2Proof.Machine
end

section
/-! PROOFS. The orderings between two events of one record (O41). -/

namespace Sys2Proof.Machine

open Sys2Proof

/-- A barrier without restriction orders whatever precedes it (R98 (a), (c)). -/
theorem ordered_full_right (a : MemEvent) (d : Bool) : ordered a (.barrier .full) d = true := by
  cases a <;> rfl

/-- And whatever succeeds it (R98 (b), (c)). -/
theorem ordered_full_left (b : MemEvent) (d : Bool) : ordered (.barrier .full) b d = true := by
  cases b <;> rfl

/-- Accesses of one location are ordered, two reads excepted (R100). -/
theorem ordered_same_location {a b : MemEvent} {w : Nat}
    (h : (a = .read w ∧ b = .write w) ∨ (a = .write w ∧ b = .read w) ∨ (a = .write w ∧ b = .write w)) (d : Bool) :
    ordered a b d = true := by
  rcases h with ⟨rfl, rfl⟩ | ⟨rfl, rfl⟩ | ⟨rfl, rfl⟩ <;> simp [ordered]

/-- Where nothing more is kept in order, nothing is (R10). -/
theorem orderedByStronger_none (a b : MemEvent) : orderedByStronger {} a b = false := by
  cases a <;> cases b <;> rfl

namespace State

variable {s : State} {i j : Nat} {a b : Noted}

theorem enforced_eq (ha : s.event? i = some a) (hb : s.event? j = some b) :
    s.enforced i j = (decide (i < j) && a.initiator == b.initiator &&
      (ordered a.event b.event (s.dependent i j) || orderedByStronger s.impl.stronger a.event b.event)) := by
  simp only [enforced, ha, hb]

/-- Only the orders of one initiator are enforced, and only forwards. -/
theorem of_enforced (ha : s.event? i = some a) (hb : s.event? j = some b) (h : s.enforced i j = true) :
    i < j ∧ a.initiator = b.initiator := by
  rw [enforced_eq ha hb] at h
  simp only [Bool.and_eq_true, decide_eq_true_eq, beq_iff_eq] at h
  exact h.1

/-- Of two events of one initiator, that order is enforced which the AMCM or a stronger model asks for. -/
theorem enforced_in_order (ha : s.event? i = some a) (hb : s.event? j = some b) (hij : i < j)
    (hi : a.initiator = b.initiator) :
    s.enforced i j =
      (ordered a.event b.event (s.dependent i j) || orderedByStronger s.impl.stronger a.event b.event) := by
  rw [enforced_eq ha hb, decide_eq_true hij, hi, beq_self_eq_true, Bool.true_and, Bool.true_and]

theorem enforced_of_ordered (ha : s.event? i = some a) (hb : s.event? j = some b) (hij : i < j)
    (hi : a.initiator = b.initiator) (h : ordered a.event b.event (s.dependent i j) = true) : s.enforced i j = true := by
  rw [enforced_in_order ha hb hij hi, h, Bool.true_or]

end State

/-- Settles O41: by cases on the two events, from what `ordered` says of them. -/
theorem programOrdersEnforced : Obligations.ProgramOrdersEnforced := by
  intro s i j a b ha hb
  refine ⟨State.of_enforced ha hb, fun hij hi => ⟨fun hfull => ?_, fun w hw => ?_, fun hnone v w => ?_⟩⟩
  · refine State.enforced_of_ordered ha hb hij hi ?_
    rcases hfull with h | h <;> rw [h]
    · exact ordered_full_left _ _
    · exact ordered_full_right _ _
  · exact State.enforced_of_ordered ha hb hij hi (ordered_same_location hw _)
  · have henf : s.enforced i j = ordered a.event b.event (s.dependent i j) := by
      rw [State.enforced_in_order ha hb hij hi, hnone, orderedByStronger_none, Bool.or_false]
    rw [henf]
    refine ⟨fun ⟨h, k⟩ => ?_, fun ⟨h, k⟩ => ?_, fun ⟨h, k⟩ => ?_, fun ⟨h, k⟩ => ?_⟩ <;> rw [h, k] <;> simp [ordered]

end Sys2Proof.Machine
end

section
/-! PROOFS. The dependences of R101: a value read is followed from place to place, and each write that consumes it is ordered after the
read (O42). -/

namespace Sys2Proof.Machine

open Sys2Proof

/-! ### From registers to places -/

theorem gpr_half_mem (i : Fin 128) : .gpr i ∈ regPlaces (.gpr (fullOf i)) := by
  simp only [regPlaces, fullOf, List.mem_cons, Place.gpr.injEq, Fin.ext_iff, List.not_mem_nil, or_false]
  omega

theorem rnr_half_mem (i : Fin 128) : .rnr i ∈ regPlaces (.rnr (fullOf i)) := by
  simp only [regPlaces, fullOf, List.mem_cons, Place.rnr.injEq, Fin.ext_iff, List.not_mem_nil, or_false]
  omega

/-- Registers that have a semi-register in common have a place in common (R25, R32). -/
theorem place_of_overlaps {r q : Reg} (h : Overlaps r q) : ∃ p ∈ regPlaces r, p ∈ regPlaces q := by
  unfold Overlaps at h
  split at h
  · subst h; exact ⟨_, List.mem_cons_self, List.mem_cons_self⟩
  · subst h; exact ⟨_, gpr_half_mem _, List.mem_cons_self⟩
  · subst h; exact ⟨_, List.mem_cons_self, gpr_half_mem _⟩
  · subst h; exact ⟨_, List.mem_cons_self, List.mem_cons_self⟩
  · subst h; exact ⟨_, List.mem_cons_self, List.mem_cons_self⟩
  · subst h; exact ⟨_, rnr_half_mem _, List.mem_cons_self⟩
  · subst h; exact ⟨_, List.mem_cons_self, rnr_half_mem _⟩
  · subst h; exact ⟨_, List.mem_cons_self, List.mem_cons_self⟩
  · exact h.elim

theorem overlaps_refl (r : Reg) : Overlaps r r := by cases r <;> rfl

/-- What each place of register `r` holds depends on read number n. -/
def Carries (d : Dependences) (n : Nat) (r : Reg) : Prop := ∀ p ∈ regPlaces r, n ∈ d.readsAt p

namespace Carries

variable {d : Dependences} {n : Nat} {r : Reg}

theorem of_reg (h : Carries d n r) {q : Reg} (hq : Overlaps r q) : n ∈ d.reads (regPlaces q) := by
  obtain ⟨p, hr, hq⟩ := place_of_overlaps hq
  exact (d.mem_reads _ n).mpr ⟨p, hq, h p hr⟩

theorem of_operand (h : Carries d n r) {o : Operand} (ho : OperandReads r o) : n ∈ d.reads (operandPlaces o) := by
  obtain ⟨q, rfl, hq⟩ := ho
  exact h.of_reg hq

end Carries

namespace Dependences

theorem mem_reads_append (d : Dependences) (ps qs : List Place) (n : Nat) :
    n ∈ d.reads (ps ++ qs) ↔ n ∈ d.reads ps ∨ n ∈ d.reads qs := by
  simp only [mem_reads, List.mem_append, or_and_right, exists_or]

end Dependences

namespace Carries

variable {d : Dependences} {n : Nat} {r : Reg}

theorem of_operands (h : Carries d n r) {a b : Operand} (ho : OperandReads r a ∨ OperandReads r b) :
    n ∈ d.reads (operandPlaces a ++ operandPlaces b) :=
  (d.mem_reads_append _ _ n).mpr (ho.imp h.of_operand h.of_operand)

theorem of_address (h : Carries d n r) {a : Address} (ha : AddressReads r a) : n ∈ d.reads (addressPlaces a) := by
  cases a <;> exact h.of_operands ha

theorem of_condition (h : Carries d n r) {c : Condition} (hc : ConditionReads r c) : n ∈ d.reads (conditionPlaces c) := by
  cases c with
  | always => exact hc.elim
  | nonzero o | zero o => exact h.of_operand hc
  | implementation k a b => exact h.of_operands hc

theorem of_vecSource (h : Carries d n r) {b : VecSource} (hb : VecSourceReads r b) : n ∈ d.reads (vecSourcePlaces b) := by
  cases b with
  | vector q => exact h.of_reg hb
  | scalarLow o | scalarImplementation k o => exact h.of_operand hb

end Carries

/-! ### The record -/

namespace State

variable {s t : State}

/-- Events keep their numbers however many more are recorded. -/
theorem event?_of_suffix (h : s.trace <:+ t.trace) {i : Nat} {e : Noted} (he : s.event? i = some e) : t.event? i = some e := by
  obtain ⟨later, h⟩ := h
  have hi : i < s.trace.reverse.length := by simpa using s.event?_lt he
  rw [event?, ← h, List.reverse_append, List.getElem?_append_left hi]
  exact he

/-- A write that depends on an earlier read is ordered after it (R101). -/
theorem enforced_of_dependent {n w x : Nat} (hn : s.event? n = some ⟨.self, .read w⟩)
    (ht : t.trace = ⟨.self, .write x⟩ :: s.trace) (hd : t.dependent n s.trace.length = true) :
    t.enforced n s.trace.length = true := by
  have hread : t.event? n = some ⟨.self, .read w⟩ := event?_of_suffix ⟨[⟨.self, .write x⟩], ht.symm⟩ hn
  have hwrite : t.event? s.trace.length = some ⟨.self, .write x⟩ := (s.event?_cons ht _).trans (if_pos rfl)
  refine enforced_of_ordered hread hwrite (s.event?_lt hn) rfl ?_
  simp only [ordered, hd, Bool.or_true]

end State

/-! ### Instructions that complete -/

/-- Instruction `i` completes at s: step 9 goes on to the next instruction, or to a target, after the effect `e`, and the flow `w` says
what it consumed. -/
structure Completes (i : Instr) (s : State) (w : Flow) (e : Effect) : Prop where
  runs : exec i s = .next (s.conclude w e)
  goesOn : e.outcome = .next ∨ ∃ a, e.outcome = .transfer a
  byFlow : w.recorded = false

theorem conclude_transfer (s t : State) (w : Flow) (a : Word) :
    s.conclude w ⟨t, .transfer a⟩ = (t.controlTransfer a).setDepend (s.track w t).depend := by
  change (s.track w t).controlTransfer a = _
  rw [s.track_eq]
  rfl

/-- Going on writes the sequencing state alone, besides recording the dependences. -/
theorem conclude_goesOn (s : State) (w : Flow) {e : Effect} (h : e.outcome = .next ∨ ∃ a, e.outcome = .transfer a) :
    (s.conclude w e).depend = (s.track w e.state).depend ∧ (s.conclude w e).trace = e.state.trace ∧
      (s.conclude w e).opl = e.state.opl := by
  obtain ⟨t, o⟩ := e
  rcases h with rfl | ⟨a, rfl⟩
  · rw [State.conclude_next, State.advance_eq]
    exact ⟨rfl, rfl, rfl⟩
  · rw [conclude_transfer, State.controlTransfer_eq]
    exact ⟨rfl, rfl, rfl⟩

namespace Completes

variable {i : Instr} {s : State} {w : Flow} {e : Effect}

/-- The results depend on what the address and the operands depended on, and on the instruction's own reads. -/
theorem readsAt_results (h : Completes i s w e) {n : Nat}
    (hn : n ∈ s.depend.reads w.address ∨ n ∈ s.depend.reads w.used ∨ n ∈ e.state.ownReads s.trace.length) {p : Place}
    (hp : p ∈ w.results) : n ∈ (s.conclude w e).depend.readsAt p := by
  obtain ⟨hdepend, _, _⟩ := conclude_goesOn s w h.goesOn
  rw [hdepend, s.readsAt_track h.byFlow, if_pos hp]
  simp only [mem_addReads]
  rcases hn with hn | hn | hn
  · exact .inl (.inl hn)
  · exact .inl (.inr hn)
  · exact .inr hn

/-- After an instruction that consumes what read number n gave, the read stands in the record as before, and the results depend on it. -/
theorem moves (h : Completes i s w e) {n x : Nat} (hn : e.state.event? n = some ⟨.self, .read x⟩)
    (hsrc : n ∈ s.depend.reads w.address ∨ n ∈ s.depend.reads w.used ∨ n ∈ e.state.ownReads s.trace.length) :
    ∃ t, exec i s = .next t ∧ t.event? n = some ⟨.self, .read x⟩ ∧ t.opl = e.state.opl ∧
      ∀ p ∈ w.results, n ∈ t.depend.readsAt p := by
  obtain ⟨_, htrace, hopl⟩ := conclude_goesOn s w h.goesOn
  refine ⟨_, h.runs, ?_, hopl, fun p hp => h.readsAt_results hsrc hp⟩
  rw [State.event?, htrace]
  exact hn

/-- What decides what executes next is remembered (R101, R270). -/
theorem control_decides (h : Completes i s w e) {n : Nat} (hn : n ∈ s.depend.reads w.decides) :
    n ∈ (s.conclude w e).depend.control := by
  obtain ⟨hdepend, _, _⟩ := conclude_goesOn s w h.goesOn
  rw [hdepend, State.track, h.byFlow]
  exact (mem_addReads _ _ n).mpr (.inr hn)

/-- What the one write of an instruction depends on. -/
theorem consumedBy (h : Completes i s w e) {x : Nat} (ht : e.state.trace = ⟨.self, .write x⟩ :: s.trace) :
    (s.conclude w e).consumedBy s.trace.length =
      ⟨s.depend.reads w.address, addReads s.depend.control (s.depend.reads w.guards), s.depend.reads w.stored⟩ := by
  obtain ⟨hdepend, _, _⟩ := conclude_goesOn s w h.goesOn
  rw [← s.consumedBy_track h.byFlow ht, State.consumedBy, hdepend, State.consumedBy]

end Completes

/-! ### Writes -/

theorem writeReg_trace (s : State) (r : Reg) (v : Word) : (s.writeReg r v).trace = s.trace := by rw [s.writeReg_eq r v]

theorem writeReg_opl (s : State) (r : Reg) (v : Word) : (s.writeReg r v).opl = s.opl := by rw [s.writeReg_eq r v]

theorem deliverAny_trace (s : State) (r : Option Report) (ok : Bool) : (s.deliverAny r ok).state.trace = s.trace := by
  rcases r with _ | r
  · rfl
  · cases r with
    | register | bit | implementation => exact writeReg_trace ..
    | carry i => rfl
    | transferIf sense target => simp only [State.deliverAny, State.deliver]; split <;> rfl

theorem deliverAny_goesOn (s : State) (r : Option Report) (ok : Bool) :
    (s.deliverAny r ok).outcome = .next ∨ ∃ a, (s.deliverAny r ok).outcome = .transfer a := by
  rcases r with _ | r
  · exact .inl rfl
  · cases r with
    | register | bit | implementation | carry => exact .inl rfl
    | transferIf sense target =>
      simp only [State.deliverAny, State.deliver]
      split
      · exact .inr ⟨_, rfl⟩
      · exact .inl rfl

theorem store_trace {s : State} {a n v : Nat} (h : s.isBacked (a / 16) = true) :
    (s.store a n v).trace = ⟨.self, .write (a / 16)⟩ :: s.trace := by
  rw [s.store_backed h]; rfl

theorem reportFlow_byFlow (found : List Place) (r : Report) : (reportFlow found r).recorded = false := by
  cases r <;> rfl

theorem storeAtomicFlow_byFlow (o : StoreAtomic) : (storeAtomicFlow o).recorded = false := by
  unfold storeAtomicFlow
  cases o.report with
  | none => rfl
  | some r => exact reportFlow_byFlow _ r

theorem atomicAddressPlaces_eq {o : StoreAtomic} {addr : Address}
    (h : o.target = .word addr ∨ ∃ size, o.target = .octets size addr) : atomicAddressPlaces o = addressPlaces addr := by
  unfold atomicAddressPlaces
  rcases h with h | ⟨size, h⟩ <;> rw [h]

theorem storeAtomicEffect_holds {o : StoreAtomic} {s : State} (ha : atomicLocation o s % atomicOctets o = 0)
    (hb : s.isBacked (atomicLocation o s / 16) = true) (hh : atomicHolds o s = true) :
    storeAtomicEffect o s =
      (s.drawn.store (atomicLocation o s) (atomicOctets o) (s.readReg o.src).toNat).deliverAny o.report true := by
  simp [storeAtomicEffect, aligned, ha, hb, hh]

/-- Whatever stores, completes with one write, consumes its address and what it stores, and says so in its flow. -/
theorem completes_of_storesTo {i : Instr} {q : Reg} {addr : Address} {s : State} (h : StoresTo i q addr s) :
    ∃ w e x, Completes i s w e ∧ e.state.trace = ⟨.self, .write x⟩ :: s.trace ∧ w.address = addressPlaces addr ∧
      w.stored = regPlaces q := by
  rcases h with ⟨o, rfl, rfl, rfl, hp, hb⟩ | ⟨o, rfl, rfl, rfl, hp, ha, hb⟩ | ⟨o, rfl, rfl, htarget, hp, ha, hb, hh⟩
  · exact ⟨_, _, _, ⟨exec_storeWord_allowed hp, .inl rfl, rfl⟩,
      store_trace (by rw [Nat.mul_div_cancel_left _ (by decide)]; exact hb), rfl, rfl⟩
  · have heffect : storeOctetEffect o s =
        ⟨s.store (s.octetLocation (s.address o.addr)) o.size.octets (s.readReg o.src).toNat, .next⟩ := by
      rw [storeOctetEffect, s.memWrite_aligned ha]
    exact ⟨_, _, _, ⟨heffect ▸ exec_storeOctet_allowed hp, .inl rfl, rfl⟩, store_trace hb, rfl, rfl⟩
  · have hruns := exec_storeAtomic_allowed hp
    rw [storeAtomicEffect_holds ha hb hh] at hruns
    exact ⟨_, _, _, ⟨hruns, deliverAny_goesOn _ _ _, storeAtomicFlow_byFlow o⟩,
      (deliverAny_trace _ _ _).trans (store_trace (s := s.drawn) hb), atomicAddressPlaces_eq htarget, rfl⟩

/-- A register that carries the value of a read makes the writes that store it, or whose address it enters, depend on the read. -/
theorem writesDepend_of_carries {s : State} {n w : Nat} {r : Reg} (hn : s.event? n = some ⟨.self, .read w⟩)
    (hr : Carries s.depend n r) : WritesDepend n r s := by
  intro i q addr h
  obtain ⟨f, e, x, hc, htrace, haddress, hstored⟩ := completes_of_storesTo h
  obtain ⟨_, ht, _⟩ := conclude_goesOn s f hc.goesOn
  have hconsumed := hc.consumedBy htrace
  refine ⟨_, hc.runs, fun hq => ?_, fun ha => ?_⟩
  · have hdata : (s.conclude f e).dataDependent n s.trace.length = true := by
      rw [State.dataDependent, hconsumed, hstored]
      exact List.contains_iff_mem.mpr (hr.of_reg hq)
    exact ⟨hdata, State.enforced_of_dependent hn (ht.trans htrace) (by rw [State.dependent, hdata, Bool.or_true])⟩
  · have haddr : (s.conclude f e).addressDependent n s.trace.length = true := by
      rw [State.addressDependent, hconsumed, haddress]
      exact List.contains_iff_mem.mpr (hr.of_address ha)
    exact ⟨haddr, State.enforced_of_dependent hn (ht.trans htrace)
      (by rw [State.dependent, haddr, Bool.true_or, Bool.true_or])⟩

/-- A read that decided what executes makes every later write depend on it. -/
theorem writesControlled_of_control {s : State} {n w : Nat} (hn : s.event? n = some ⟨.self, .read w⟩)
    (hd : n ∈ s.depend.control) : WritesControlled n s := by
  intro i q addr h
  obtain ⟨f, e, x, hc, htrace, _, _⟩ := completes_of_storesTo h
  obtain ⟨_, ht, _⟩ := conclude_goesOn s f hc.goesOn
  have hcontrol : (s.conclude f e).controlDependent n s.trace.length = true := by
    rw [State.controlDependent, hc.consumedBy htrace]
    exact List.contains_iff_mem.mpr ((mem_addReads _ _ n).mpr (.inl hd))
  exact ⟨_, hc.runs, hcontrol, State.enforced_of_dependent hn (ht.trans htrace)
    (by rw [State.dependent, hcontrol, Bool.or_true, Bool.true_or])⟩

/-! ### Reads, and what is computed from them -/

/-- A load completes with one read; what it consumes is its address. -/
theorem completes_of_loadsFrom {i : Instr} {r : Reg} {addr : Address} {s : State} (h : LoadsFrom i r addr s) :
    ∃ w e x, Completes i s w e ∧ e.state.trace = ⟨.self, .read x⟩ :: s.trace ∧ e.state.opl = s.opl ∧
      w.address = addressPlaces addr ∧ w.results = regPlaces r := by
  rcases h with ⟨o, rfl, rfl, rfl, hp⟩ | ⟨o, rfl, rfl, rfl, hp, ha⟩
  · have hread : (s.memReadW (s.address o.addr)).2.trace = ⟨.self, .read (s.wordLocation (s.address o.addr))⟩ :: s.trace ∧
        (s.memReadW (s.address o.addr)).2.opl = s.opl := by
      rcases s.memReadW_cases (s.address o.addr) with ⟨_, h⟩ | ⟨_, h⟩ <;> rw [h] <;> exact ⟨rfl, rfl⟩
    exact ⟨_, _, _, ⟨exec_loadWord_allowed hp, .inl rfl, rfl⟩, (writeReg_trace _ _ _).trans hread.1,
      (writeReg_opl _ _ _).trans hread.2, rfl, rfl⟩
  · obtain ⟨v, u, hread, htrace, hopl⟩ : ∃ v u, s.memRead (s.address o.addr) o.size = some (v, u) ∧
        u.trace = ⟨.self, .read (s.octetLocation (s.address o.addr) / 16)⟩ :: s.trace ∧ u.opl = s.opl := by
      cases hb : s.isBacked (s.octetLocation (s.address o.addr) / 16) with
      | true => exact ⟨_, _, s.memRead_backed ha hb, rfl, rfl⟩
      | false => exact ⟨_, _, s.memRead_unbacked ha hb, rfl, rfl⟩
    have heffect : loadOctetEffect o s = ⟨u.fill o.dst (8 * o.size.octets) v o.ext, .next⟩ := by
      rw [loadOctetEffect, hread]
    exact ⟨_, _, _, ⟨heffect ▸ exec_loadOctet_allowed hp, .inl rfl, rfl⟩, (writeReg_trace _ _ _).trans htrace,
      (writeReg_opl _ _ _).trans hopl, rfl, rfl⟩

/-- The read of a load is among the instruction's own. -/
theorem mem_ownReads_of_trace {s t : State} {x : Nat} (h : t.trace = ⟨.self, .read x⟩ :: s.trace) :
    s.trace.length ∈ t.ownReads s.trace.length := by
  rw [State.ownReads, s.ownFrom_cons h]
  exact List.mem_singleton_self _

theorem elementExtractEffect_completes {o : ElementExtract} {s : State}
    (h : selectElement o.form o.type o.src.width (s.value o.select) ≠ .unaligned) :
    ∃ v, elementExtractEffect o s = ⟨s.fill o.dst o.type.elemBits v o.ext, .next⟩ := by
  unfold elementExtractEffect
  split
  · exact ⟨_, rfl⟩
  · next hsel => exact absurd hsel h
  · exact ⟨_, rfl⟩

theorem elementDepositEffect_completes {o : ElementDeposit} {s : State}
    (h : selectElement o.form o.type o.dst.width (s.value o.select) ≠ .unaligned) :
    ∃ v, elementDepositEffect o s = ⟨s.writeReg o.dst v, .next⟩ := by
  unfold elementDepositEffect
  split
  · exact ⟨_, rfl⟩
  · next hsel => exact absurd hsel h
  · exact ⟨_, rfl⟩

theorem State.Computed.trace_eq {s t : State} (h : State.Computed s t) : t.trace = s.trace := by rw [h]

theorem integerCarryEffect_completes (o : IntegerCarry) (s : State) :
    ∃ t, integerCarryEffect o s = ⟨t, .next⟩ ∧ t.trace = s.trace := by
  cases hd : o.dst with
  | gpr g => exact ⟨_, integerCarryEffect_gpr hd s, State.Computed.trace_eq (s.computed_carryWriteGpr g _)⟩
  | sgpr i => exact ⟨_, integerCarryEffect_sgpr hd s, rfl⟩

/-- An instruction that computes from one register into another consumes the first and results in the second. -/
theorem completes_of_computesFrom {i : Instr} {r q : Reg} {s : State} (h : ComputesFrom i r q s) {n : Nat}
    (hr : Carries s.depend n r) :
    ∃ w e, Completes i s w e ∧ s.trace <:+ e.state.trace ∧ (n ∈ s.depend.reads w.address ∨ n ∈ s.depend.reads w.used) ∧
      ∀ p ∈ regPlaces q, p ∈ w.results := by
  rcases h with ⟨o, rfl, hsrc, rfl, hp⟩ | ⟨o, rfl, hsrc, rfl, hp⟩ | ⟨o, rfl, hsrc, rfl, hp, hsel⟩ |
    ⟨o, rfl, hsrc, rfl, hp, hsel⟩ | ⟨addr, hload, haddr⟩
  · have hused : n ∈ s.depend.reads (integerCarryFlow o).used :=
      (s.depend.mem_reads_append _ _ n).mpr (.inl (hr.of_operands hsrc))
    obtain ⟨t, heffect, htrace⟩ := integerCarryEffect_completes o s
    exact ⟨_, _, ⟨heffect ▸ exec_integerCarry_allowed hp, .inl rfl, rfl⟩, htrace.symm ▸ List.suffix_rfl, .inr hused,
      fun p hp => List.mem_cons_of_mem _ hp⟩
  · have hused : n ∈ s.depend.reads (vectorFlow o).used :=
      (s.depend.mem_reads_append _ _ n).mpr (hsrc.imp hr.of_reg hr.of_vecSource)
    exact ⟨_, _, ⟨exec_vector_allowed hp, .inl rfl, rfl⟩, (writeReg_trace _ _ _).symm ▸ List.suffix_rfl, .inr hused,
      fun p hp => hp⟩
  · have hused : n ∈ s.depend.reads (elementExtractFlow o).used := by
      simp only [elementExtractFlow, Dependences.mem_reads_append]
      exact .inl (hsrc.imp hr.of_reg hr.of_operand)
    obtain ⟨v, heffect⟩ := elementExtractEffect_completes hsel
    exact ⟨_, _, ⟨heffect ▸ exec_elementExtract_allowed hp, .inl rfl, rfl⟩, (writeReg_trace _ _ _).symm ▸ List.suffix_rfl,
      .inr hused, fun p hp => hp⟩
  · have hused : n ∈ s.depend.reads (elementDepositFlow o).used := by
      simp only [elementDepositFlow, Dependences.mem_reads_append, or_assoc]
      exact hsrc.imp hr.of_reg (.imp hr.of_operand hr.of_operand)
    obtain ⟨v, heffect⟩ := elementDepositEffect_completes hsel
    exact ⟨_, _, ⟨heffect ▸ exec_elementDeposit_allowed hp, .inl rfl, rfl⟩, (writeReg_trace _ _ _).symm ▸ List.suffix_rfl,
      .inr hused, fun p hp => hp⟩
  · obtain ⟨w, e, x, hc, htrace, _, haddress, hresults⟩ := completes_of_loadsFrom hload
    exact ⟨w, e, hc, ⟨[_], htrace.symm⟩, .inl (haddress ▸ hr.of_address haddr), fun p hp => hresults ▸ hp⟩

/-! ### Privileged state -/

section

variable {s : State} {n x : Nat} {r : Reg}

/-- Privileged state that a register was written to depends on what the register depended on. -/
theorem privilegedWrite_depends (hn : s.event? n = some ⟨.self, .read x⟩) (hr : Carries s.depend n r) {op : PrivOp}
    {f : PrivField} (hp : privLevel op ≤ s.opl)
    (hflow : privilegedFlow ⟨op⟩ = { used := operandPlaces (.reg r), results := [.priv f] })
    (heffect : ∃ t, privilegedEffect ⟨op⟩ s = ⟨t, .next⟩ ∧ t.trace = s.trace ∧ t.opl = s.opl) :
    ∃ t, exec (.privilegedState ⟨op⟩) s = .next t ∧ t.event? n = some ⟨.self, .read x⟩ ∧ t.opl = s.opl ∧
      n ∈ t.depend.readsAt (.priv f) := by
  obtain ⟨t, heffect, htrace, hopl⟩ := heffect
  have hruns := exec_privilegedState_allowed hp
  rw [heffect, hflow] at hruns
  obtain ⟨u, hu, hread, huopl, hplaces⟩ := Completes.moves ⟨hruns, .inl rfl, rfl⟩
    (State.event?_of_suffix (htrace.symm ▸ List.suffix_rfl) hn) (.inr (.inl (hr.of_reg (overlaps_refl r))))
  exact ⟨u, hu, hread, huopl.trans hopl, hplaces _ (List.mem_singleton_self _)⟩

/-- A register read from it depends on it in turn. -/
theorem privilegedRead_depends (hn : s.event? n = some ⟨.self, .read x⟩) {op : PrivOp} {f : PrivField} {dst : WideReg}
    (hf : n ∈ s.depend.readsAt (.priv f)) (hp : privLevel op ≤ s.opl)
    (hflow : privilegedFlow ⟨op⟩ = { used := [.priv f], results := regPlaces dst.toReg })
    (heffect : ∃ v, privilegedEffect ⟨op⟩ s = ⟨s.writeReg dst.toReg v, .next⟩) :
    ∃ t, exec (.privilegedState ⟨op⟩) s = .next t ∧ WritesDepend n dst.toReg t := by
  obtain ⟨v, heffect⟩ := heffect
  have hruns := exec_privilegedState_allowed hp
  rw [heffect, hflow] at hruns
  obtain ⟨u, hu, hread, _, hplaces⟩ := Completes.moves ⟨hruns, .inl rfl, rfl⟩
    (State.event?_of_suffix ((writeReg_trace s dst.toReg v).symm ▸ List.suffix_rfl) hn)
    (.inr (.inl ((s.depend.mem_reads _ n).mpr ⟨_, List.mem_singleton_self _, hf⟩)))
  exact ⟨u, hu, writesDepend_of_carries hread hplaces⟩

theorem afterSavedLevel_eq (s : State) (v : Word) :
    afterSavedLevel s v = s ∨ afterSavedLevel s v = s.drawn := by
  unfold afterSavedLevel
  split
  · exact .inl rfl
  · exact .inr rfl

theorem writeExcSave_frame (s : State) (p : Nat) (f : SaveField) (v : Word) :
    (writeExcSave s p f v).trace = s.trace ∧ (writeExcSave s p f v).opl = s.opl := by
  rcases f with (_ | _ | _) | _
  · rcases afterSavedLevel_eq s v with h | h <;> rw [writeExcSave, h] <;> exact ⟨rfl, rfl⟩
  all_goals exact ⟨rfl, rfl⟩

theorem writeResume_frame (s : State) (p : Nat) (f : ResumeField) (v : Word) :
    (writeResume s p f v).trace = s.trace ∧ (writeResume s p f v).opl = s.opl := by
  cases f with
  | opl => rcases afterSavedLevel_eq s v with h | h <;> rw [writeResume, h] <;> exact ⟨rfl, rfl⟩
  | ipmar | iidx => exact ⟨rfl, rfl⟩

/-- An exception goes where EHA[p] says, so that what was read into it controls what executes (R320). -/
theorem writesControlled_trapEntry (hn : s.event? n = some ⟨.self, .read x⟩) {p : Nat}
    (hf : n ∈ s.depend.readsAt (.priv (.eha p))) (e : ExcId) : WritesControlled n (s.trapEntry e p) := by
  refine writesControlled_of_control (State.event?_of_suffix (by rw [State.trapEntry_eq]) hn) ?_
  rw [State.trapEntry_eq]
  exact (mem_addReads _ _ n).mpr (.inr ((s.depend.mem_reads _ n).mpr ⟨_, List.mem_singleton_self _, hf⟩))

end

/-! ### The statement -/

/-- A control flow instruction that consumes a register remembers what it carries. -/
theorem writesControlled_controlFlow {s : State} {n x : Nat} {r : Reg} (hn : s.event? n = some ⟨.self, .read x⟩)
    (hr : Carries s.depend n r) {c : ControlFlow} (hp : c.priv ≤ s.opl)
    (hc : ConditionReads r c.cond ∨ AddressReads r c.target) :
    ∃ t, exec (.controlFlow c) s = .next t ∧ WritesControlled n t := by
  have hstate : (controlFlowEffect c s).state = s := by unfold controlFlowEffect; split <;> rfl
  have hgoes : (controlFlowEffect c s).outcome = .next ∨ ∃ a, (controlFlowEffect c s).outcome = .transfer a := by
    unfold controlFlowEffect
    split
    · exact .inr ⟨_, rfl⟩
    · exact .inl rfl
  have hcompletes : Completes (.controlFlow c) s (controlFlowFlow c) (controlFlowEffect c s) :=
    ⟨exec_controlFlow_allowed hp, hgoes, rfl⟩
  obtain ⟨_, htrace, _⟩ := conclude_goesOn s (controlFlowFlow c) hgoes
  refine ⟨_, hcompletes.runs, writesControlled_of_control (State.event?_of_suffix ?_ hn) (hcompletes.control_decides ?_)⟩
  · rw [htrace, hstate]
  · exact (s.depend.mem_reads_append _ _ n).mpr (hc.imp hr.of_condition hr.of_address)

/-- Settles O42: after the load its register carries the read; each of the ways that the statement names takes the read from places to
places, or to what decides what executes. -/
theorem dependentWritesOrdered : Obligations.DependentWritesOrdered := by
  intro l r a s hload
  obtain ⟨w, e, x, hc, htrace, hopl, _, hresults⟩ := completes_of_loadsFrom hload
  have hread : e.state.event? s.trace.length = some ⟨.self, .read x⟩ := (s.event?_cons htrace _).trans (if_pos rfl)
  obtain ⟨t, hruns, hn, htopl, hplaces⟩ := hc.moves hread (.inr (.inr (mem_ownReads_of_trace htrace)))
  have hr : Carries t.depend s.trace.length r := fun p hp => hplaces p (hresults ▸ hp)
  refine ⟨t, hruns, writesDepend_of_carries hn hr, fun c q hcomp => ?_, fun c hp hcond => ?_,
    fun p hp => ?_⟩
  · obtain ⟨w, e, hc, hsuffix, hsrc, hq⟩ := completes_of_computesFrom hcomp hr
    obtain ⟨u, hu, hn, _, hplaces⟩ := hc.moves (State.event?_of_suffix hsuffix hn) (hsrc.imp_right .inl)
    exact ⟨u, hu, writesDepend_of_carries hn fun p hp => hplaces p (hq p hp)⟩
  · exact writesControlled_controlFlow hn hr (by rw [htopl, hopl]; exact hp) hcond
  · have hlevel : max 1 p ≤ t.opl := by rw [htopl, hopl]; exact hp
    refine ⟨fun f dst => ?_, fun f dst => ?_, ?_⟩
    · obtain ⟨u, hu, hn, huopl, hf⟩ := privilegedWrite_depends hn hr (op := .writeEsave p f (.reg r)) (f := .esave p f)
        hlevel rfl ⟨_, rfl, writeExcSave_frame t p f _⟩
      obtain ⟨v, hv, hdepend⟩ := privilegedRead_depends hn (op := .readEsave p f dst) hf (huopl ▸ hlevel) rfl ⟨_, rfl⟩
      exact ⟨u, v, hu, hv, hdepend⟩
    · obtain ⟨u, hu, hn, huopl, hf⟩ := privilegedWrite_depends hn hr (op := .writeIsave p f (.reg r)) (f := .isave p f)
        hlevel rfl ⟨_, rfl, writeResume_frame t p f _⟩
      obtain ⟨v, hv, hdepend⟩ := privilegedRead_depends hn (op := .readIsave p f dst) hf (huopl ▸ hlevel) rfl ⟨_, rfl⟩
      exact ⟨u, v, hu, hv, hdepend⟩
    · obtain ⟨u, hu, hn, _, hf⟩ := privilegedWrite_depends hn hr (op := .setEha p (.reg r)) (f := .eha p) hlevel rfl
        ⟨_, rfl, rfl, rfl⟩
      exact ⟨u, hu, writesControlled_trapEntry hn hf⟩

end Sys2Proof.Machine
end

section
/-! PROOFS. Decoder and encoder undo each other, for package words and for instruction words (O1, O2); the reserved formats (O4); a few
words from the spec (O6). -/

namespace Sys2Proof

/-! ### Package words -/

theorem formatField_eq (w : Word) : formatField w = w.toNat % 256 := by
  rw [formatField, BitVec.extractLsb'_toNat, Nat.shiftRight_zero]

theorem formatField_asWord {n : Nat} (h : n + 8 = 128) (x : BitVec n) (code : BitVec 8) :
    formatField (asWord h (x ++ code)) = code.toNat := by
  rw [formatField, extract_asWord, extract_below _ _ _ _ (by decide), extract_whole]

theorem ofNat_formatField (w : Word) : BitVec.ofNat 8 (formatField w) = w.extractLsb' 0 8 := by
  rw [formatField, BitVec.ofNat_toNat, BitVec.setWidth_eq]

theorem asWord_extract {n : Nat} (h : n = 128) (w : Word) : asWord h (w.extractLsb' 0 n) = w := by
  subst h; exact extract_whole w

theorem decodePackage_of_row {w : Word} {k : Nat} {row : Word → Instr} (hk : formatField w = k)
    (hr : packageRows[k]? = some row) : decodePackage w = .ok (row w) := by
  rw [decodePackage, hk, hr]

/-- A package word that is not refused is decoded by the row that its Format field numbers (R122). -/
theorem row_of_decodePackage {w : Word} {i : Instr} (h : decodePackage w = .ok i) :
    ∃ row, packageRows[formatField w]? = some row ∧ row w = i := by
  simp only [decodePackage] at h
  split at h
  · next row hr => cases h; exact ⟨row, hr, rfl⟩
  · cases h

/-- Each row of the decoder reads every sub-field where the encoder puts it. -/
theorem decodePackage_of_encode {i : Instr} {w : Word} (h : encode i = some (.package w)) : decodePackage w = .ok i := by
  cases i <;> cases h
  all_goals
    refine (decodePackage_of_row (formatField_asWord _ _ _) rfl).trans ?_
    simp (disch := decide) only [extract_asWord, extract_above, extract_below, Nat.reduceSub, extract_whole]

/-- Each row of the encoder puts the sub-fields, which are neighbours, together to the whole word again. -/
theorem encode_row {w : Word} {k : Nat} {row : Word → Instr} (hr : packageRows[k]? = some row) (hk : formatField w = k) :
    encode (row w) = some (.package w) := by
  have hlt : k < 157 := packageRows_length ▸ (List.getElem?_eq_some_iff.mp hr).1
  have hcode : BitVec.ofNat 8 k = w.extractLsb' 0 8 := hk ▸ ofNat_formatField w
  clear hk
  interval_cases k
  all_goals
    cases hr
    simp (disch := decide) only [encode, hcode, append_fields, asWord_extract]

theorem encode_of_decodePackage {w : Word} {i : Instr} (h : decodePackage w = .ok i) : encode i = some (.package w) := by
  obtain ⟨row, hr, rfl⟩ := row_of_decodePackage h
  exact encode_row hr rfl

/-- Settles O4: the decoder has a row for every code below 157 and none from there on. -/
theorem reservedFormatsRefused : Obligations.ReservedFormatsRefused := by
  intro w
  rw [← formatField_eq]
  refine ⟨fun h => ?_, decodePackage_reserved w⟩
  by_contra hlt
  have hk : formatField w < packageRows.length := by rw [packageRows_length]; omega
  rw [decodePackage_of_row rfl (List.getElem?_eq_getElem hk)] at h
  cases h

/-! ### Instruction words -/

theorem popc_append {n k : Nat} (rest : BitVec n) (hk : k < 8) :
    ((rest ++ BitVec.ofNat 3 k).extractLsb' 0 3).toNat = k := by
  rw [extract_below _ _ _ _ (by decide), extract_whole, BitVec.toNat_ofNat, Nat.mod_eq_of_lt hk]

theorem rest_append {n : Nat} (rest : BitVec n) (code : BitVec 3) : (rest ++ code).extractLsb' 3 n = rest := by
  rw [extract_above _ _ _ _ (by decide), extract_whole]

/-- The bits of an instruction are a primary operation code and the rest above it (R133). -/
theorem exists_append_popc {n : Nat} (b : BitVec (n + 3)) :
    ∃ rest : BitVec n, ∃ k < 8, b = rest ++ BitVec.ofNat 3 k := by
  refine ⟨b.extractLsb' 3 n, (b.extractLsb' 0 3).toNat, (b.extractLsb' 0 3).isLt, ?_⟩
  rw [BitVec.ofNat_toNat, BitVec.setWidth_eq]
  exact ((BitVec.extractLsb'_append_extractLsb'_eq_extractLsb' rfl).trans (extract_whole b)).symm

theorem decodeWord_of_encode {i : Instr} {w : InstrWord} (h : encode i = some (.instruction w)) : decodeWord w = i := by
  cases i <;> cases h
  all_goals simp (disch := decide) only [decodeWord, decode30, decode40, decode50, decode60, popc_append, rest_append]

theorem encode_decodeWord (w : InstrWord) : encode (decodeWord w) = some (.instruction w) := by
  rcases w with b | b | b | b
  all_goals
    obtain ⟨rest, k, hk, rfl⟩ := exists_append_popc b
    simp only [decodeWord, decode30, decode40, decode50, decode60, popc_append rest hk, rest_append]
    interval_cases k <;> rfl

/-! ### Which rows have an encoding -/

/-- The hypothesis of O1 that the instruction be well-formed is not needed: a nonzero Zero sub-field is encoded too. -/
theorem decode_of_encode {i : Instr} {c : Code} (h : encode i = some c) : decode c = .ok i := by
  cases c with
  | package w => exact decodePackage_of_encode h
  | instruction w => exact congrArg Except.ok (decodeWord_of_encode h)

theorem isSome_package?_iff (i : Instr) : i.package?.isSome = true ↔ ∃ w, encode i = some (.package w) := by
  constructor
  · intro h
    obtain ⟨p, hp⟩ := Option.isSome_iff_exists.mp h
    cases i <;> cases hp <;> exact ⟨_, rfl⟩
  · rintro ⟨w, hw⟩
    obtain ⟨p, hp⟩ := Machine.package_of_decodePackage (decodePackage_of_encode hw)
    rw [hp, Option.isSome_some]

theorem exists_decodeWord_iff (i : Instr) : (∃ w, decodeWord w = i) ↔ ∃ w, encode i = some (.instruction w) :=
  ⟨fun ⟨w, hw⟩ => ⟨w, hw ▸ encode_decodeWord w⟩, fun ⟨w, hw⟩ => ⟨w, decodeWord_of_encode hw⟩⟩

theorem isSome_encode_iff (i : Instr) :
    (encode i).isSome = true ↔ i.package?.isSome = true ∨ ∃ w, decodeWord w = i := by
  rw [isSome_package?_iff, exists_decodeWord_iff, Option.isSome_iff_exists]
  constructor
  · rintro ⟨w | w, h⟩
    · exact .inl ⟨w, h⟩
    · exact .inr ⟨w, h⟩
  · rintro (⟨w, h⟩ | ⟨w, h⟩) <;> exact ⟨_, h⟩

/-- The rows without an encoding are the 17 named ones (R139). -/
theorem encode_eq_none_iff (i : Instr) : encode i = none ↔ ∃ op, Machine.instrOf op = some i := by
  constructor
  · intro h
    cases i <;> cases h
    exacts [⟨.aviObtain _, rfl⟩, ⟨.aeQuery _, rfl⟩, ⟨.integerCarry _, rfl⟩, ⟨.vector _, rfl⟩, ⟨.elementExtract _, rfl⟩,
      ⟨.elementDeposit _, rfl⟩, ⟨.loadWordAddressed _, rfl⟩, ⟨.storeWordAddressed _, rfl⟩, ⟨.loadOctetAddressed _, rfl⟩,
      ⟨.storeOctetAddressed _, rfl⟩, ⟨.memoryBarrier _, rfl⟩, ⟨.storeAtomic _, rfl⟩, ⟨.controlFlow _, rfl⟩,
      ⟨.internalInterrupt _, rfl⟩, ⟨.sendInterrupt _, rfl⟩, ⟨.null _, rfl⟩, ⟨.privilegedState _, rfl⟩]
  · rintro ⟨op, h⟩
    cases op <;> cases h <;> rfl

/-- Settles O1, row by row; which rows have an encoding follows from what their encodings decode to. -/
theorem decodeAfterEncode : Obligations.DecodeAfterEncode :=
  ⟨fun _ _ _ h => decode_of_encode h, fun i => ⟨isSome_encode_iff i, encode_eq_none_iff i⟩⟩

/-- Settles O2: the row that the Format field or the primary operation code numbers encodes to the bits it was read from. -/
theorem encodeAfterDecode : Obligations.EncodeAfterDecode := by
  intro c i h
  cases c with
  | package w => exact encode_of_decodePackage h
  | instruction w => cases h; exact encode_decodeWord w

/-- Settles O6: the four packages by their rows of the decoder. -/
theorem sampleWordsDecode : Obligations.SampleWordsDecode :=
  ⟨decodePackage_row66 _ rfl, decodePackage_row70 _ rfl, decodePackage_row8 _ rfl, decodePackage_row67 _ rfl, rfl, rfl, rfl⟩

end Sys2Proof
end

section
/-! PROOFS. The sub-fields of a package stand where the format table says (O3): the decoder's rows, which name bits of the package word,
are compared once with a cutting of the word along a row of the table. -/

namespace Sys2Proof

open Machine

/-! ### A word cut along a format -/

/-- The whole instruction of this length from bit `lo` of a package word on. -/
def wholePart (w : Word) (lo : Nat) : Nat → InstrWord
  | 30 => .w30 (w.extractLsb' lo 30)
  | 40 => .w40 (w.extractLsb' lo 40)
  | 50 => .w50 (w.extractLsb' lo 50)
  | _ => .w60 (w.extractLsb' lo 60)

/-- The high bits of a package word as a leading part of this length. -/
def leadPart (w : Word) : PartLen → SpanPart
  | .none => .none
  | .ten => .p10 (w.extractLsb' 118 10)
  | .twenty => .p20 (w.extractLsb' 108 20)
  | .thirty => .p30 (w.extractLsb' 98 30)
  | .forty => .p40 (w.extractLsb' 88 40)
  | .fifty => .p50 (w.extractLsb' 78 50)

/-- The high bits of a package word as a Zero sub-field of this length. -/
def zeroPart (w : Word) : Nat → ZeroPart
  | 0 => .none
  | 10 => .z10 (w.extractLsb' 118 10)
  | _ => .z20 (w.extractLsb' 108 20)

/-- A package word cut along a row of the format table (R126, R128). -/
def PackageFormat.cut (f : PackageFormat) (w : Word) : Package where
  trail := trailPart w f.t
  whole := (List.range f.whole.length).map fun k => wholePart w (8 + f.lo k) (f.whole.getD k 0)
  lead := leadPart w f.l
  zero := zeroPart w f.z

/-- Row for row, what the decoder reads is the word cut along the format table. -/
theorem packageRows_cut (w : Word) :
    packageRows.map (fun row => (row w).package?) = formatTable.map fun f => some (f.cut w) := by
  have h0 : packageRows0.map (fun row => (row w).package?) = formatRows0.map fun f => some (f.cut w) := rfl
  have h40 : packageRows40.map (fun row => (row w).package?) = formatRows40.map fun f => some (f.cut w) := rfl
  have h80 : packageRows80.map (fun row => (row w).package?) = formatRows80.map fun f => some (f.cut w) := rfl
  have h120 : packageRows120.map (fun row => (row w).package?) = formatRows120.map fun f => some (f.cut w) := rfl
  simp only [packageRows, formatTable, List.map_append, h0, h40, h80, h120]

theorem decodePackage_of_format {w : Word} {f : PackageFormat} (hf : formatOf w = some f) :
    ∃ i, decodePackage w = .ok i ∧ i.package? = some (f.cut w) := by
  have hrow := congrArg (·[formatField w]?) (packageRows_cut w)
  rw [formatOf] at hf
  simp only [List.getElem?_map, hf, Option.map_some, Option.map_eq_some_iff] at hrow
  obtain ⟨row, hr, hp⟩ := hrow
  exact ⟨row w, decodePackage_of_row rfl hr, hp⟩

/-! ### The values of the parts -/

/-- The lengths that the whole instructions and the Zero sub-field of a format have (R123, R124). -/
theorem formatTable_lengths {f : PackageFormat} (hf : f ∈ formatTable) :
    (∀ n ∈ f.whole, n ∈ [30, 40, 50, 60]) ∧ f.z ∈ [0, 10, 20] := by
  have hall : (formatTable.all fun f => f.whole.all ([30, 40, 50, 60].contains ·) && [0, 10, 20].contains f.z) = true := by
    decide
  simpa only [Bool.and_eq_true, List.all_eq_true, List.contains_iff_mem] using List.all_eq_true.mp hall f hf

theorem toNat_field (w : Word) (lo n : Nat) : (w.extractLsb' lo n).toNat = w.toNat / 2 ^ lo % 2 ^ n := by
  rw [BitVec.extractLsb'_toNat, Nat.shiftRight_eq_div_pow]

theorem trailPart_len (w : Word) (l : PartLen) : (trailPart w l).len = l := by cases l <;> rfl

theorem leadPart_len (w : Word) (l : PartLen) : (leadPart w l).len = l := by cases l <;> rfl

theorem trailPart_value (w : Word) (l : PartLen) : partValue (trailPart w l) = w.toNat / 2 ^ 8 % 2 ^ l.bits := by
  cases l with
  | none => exact (Nat.mod_one _).symm
  | _ => exact toNat_field w _ _

theorem leadPart_value (w : Word) (l : PartLen) :
    partValue (leadPart w l) = w.toNat / 2 ^ (128 - l.bits) % 2 ^ l.bits := by
  cases l with
  | none => exact (Nat.mod_one _).symm
  | _ => exact toNat_field w _ _

theorem zeroPart_value (w : Word) {z : Nat} (hz : z ∈ [0, 10, 20]) :
    zeroLengthAndValue (zeroPart w z) = (z, w.toNat / 2 ^ (128 - z) % 2 ^ z) := by
  simp only [List.mem_cons, List.not_mem_nil, or_false] at hz
  rcases hz with rfl | rfl | rfl
  · exact congrArg (Prod.mk 0) (Nat.mod_one _).symm
  · exact congrArg (Prod.mk 10) (toNat_field w _ _)
  · exact congrArg (Prod.mk 20) (toNat_field w _ _)

theorem wholePart_value (w : Word) (lo : Nat) {n : Nat} (hn : n ∈ [30, 40, 50, 60]) :
    lengthAndValue (wholePart w lo n) = (n, w.toNat / 2 ^ lo % 2 ^ n) := by
  simp only [List.mem_cons, List.not_mem_nil, or_false] at hn
  rcases hn with rfl | rfl | rfl | rfl <;> exact congrArg (Prod.mk _) (toNat_field w _ _)

theorem PackageFormat.cut_whole {f : PackageFormat} (hf : ∀ n ∈ f.whole, n ∈ [30, 40, 50, 60]) (w : Word) :
    (f.cut w).whole.map lengthAndValue =
      (List.range f.whole.length).map
        (fun k => (f.whole.getD k 0, w.toNat / 2 ^ (8 + f.lo k) % 2 ^ f.whole.getD k 0)) := by
  rw [cut, List.map_map]
  refine List.map_congr_left fun k hk => wholePart_value w _ (hf _ ?_)
  rw [List.getD_eq_getElem _ _ (List.mem_range.mp hk)]
  exact List.getElem_mem _

theorem PackageFormat.cut_shape (f : PackageFormat) (w : Word) : (f.cut w).shape = ⟨f.count, f.l⟩ := by
  simp only [Package.shape, cut, leadPart_len, List.length_map, List.length_range, count]

/-- Settles O3: the sub-fields are those of the word cut along its format, whose values are bit ranges of the word. -/
theorem packageFieldsFollowTheTable : Obligations.PackageFieldsFollowTheTable := by
  intro w f hf
  obtain ⟨hwhole, hzero⟩ := formatTable_lengths (List.mem_of_getElem? hf)
  obtain ⟨i, hi, hp⟩ := decodePackage_of_format hf
  exact ⟨i, f.cut w, hi, hp, trailPart_len w f.t, trailPart_value w f.t, PackageFormat.cut_whole hwhole w, leadPart_len w f.l,
    leadPart_value w f.l, zeroPart_value w hzero, f.cut_shape w⟩

end Sys2Proof
end

section
/-! PROOFS. Leading and trailing parts of a spanned instruction (O5). -/

namespace Sys2Proof

open Machine

/-- Each of the pairs of lengths of R130. -/
theorem agree_iff (l t : PartLen) :
    agree l t = true ↔
      (l.bits = 0 ∧ t.bits = 0) ∨ (0 < l.bits ∧ 0 < t.bits ∧ l.bits + t.bits ∈ [30, 40, 50, 60]) := by
  cases l <;> cases t <;> decide

theorem joinParts_isSome (l t : SpanPart) : (joinParts l t).isSome = (agree l.len t.len && l.len != .none) := by
  cases l <;> cases t <;> rfl

theorem toNat_append_eq {m n : Nat} (x : BitVec m) (y : BitVec n) : (x ++ y).toNat = x.toNat * 2 ^ n + y.toNat := by
  rw [BitVec.toNat_append, ← Nat.shiftLeft_add_eq_or_of_lt y.isLt, Nat.shiftLeft_eq]

theorem lengthAndValue_joinParts {l t : SpanPart} {w : InstrWord} (h : joinParts l t = some w) :
    lengthAndValue w = (l.len.bits + t.len.bits, partValue t * 2 ^ l.len.bits + partValue l) := by
  cases l <;> cases t <;> cases h
  all_goals exact congrArg (Prod.mk _) (toNat_append_eq _ _)

/-- Settles O5: the lengths decide whether two parts join, and the value of the joined word is that of appended bits. -/
theorem spannedPartsJoin : Obligations.SpannedPartsJoin := by
  intro l t
  refine ⟨agree_iff l.len t.len, ?_, fun w => lengthAndValue_joinParts⟩
  rw [joinParts_isSome, Bool.and_eq_true, bne_iff_ne]

end Sys2Proof
end

section
/-! PROOFS. The row of an instruction word runs what ISET makes of the word (O17), and so does a package row whose IIDX names a leading
part that the next package completes (O12). -/

namespace Sys2Proof.Machine

open Sys2Proof

/-! ### The 32 rows -/

/-- The arm of each of the 32 rows attempts the instruction word that the row encodes. -/
theorem exec_of_encode {i : Instr} {w : InstrWord} (h : encode i = some (.instruction w)) (s : State) :
    exec i s = perform w s := by
  cases i <;> cases h <;> rfl

theorem exec_decodeWord (w : InstrWord) (s : State) : exec (decodeWord w) s = perform w s :=
  exec_of_encode (encode_decodeWord w) s

/-- The arm of each named row makes the attempt that ISET makes of its instruction. -/
theorem exec_instrOf {op : Op} {i : Instr} (h : instrOf op = some i) (s : State) :
    exec i s = .next (s.attempt (isetPriv s.impl op) (isetFlow op) (isetExec op)) := by
  cases op <;> cases h <;> rfl

theorem isetDecode_eq_some {c : Impl} {w : InstrWord} {op : Op} :
    isetDecode c w = some op ↔ ∃ e, isetLines c w = [e] ∧ e.op = op := by
  unfold isetDecode
  split
  · next e he => simp [he]
  · next hne => exact ⟨nofun, fun ⟨e, he, _⟩ => absurd he (hne e)⟩

theorem perform_of_isetDecode {w : InstrWord} {s : State} {op : Op} (h : isetDecode s.impl w = some op) :
    perform w s = .next (s.attempt (isetPriv s.impl op) (isetFlow op) (isetExec op)) := by
  obtain ⟨e, he, rfl⟩ := isetDecode_eq_some.mp h
  rw [perform, he]

/-- Settles O17: the word's row and the named row make the same attempt, which OPL allows. -/
theorem instructionWordRuns : Obligations.InstructionWordRuns := by
  intro w s op hop hpriv
  have hallowed := s.attempt_allowed (isetFlow op) (isetExec op) hpriv
  refine ⟨_, ?_, rfl, fun j hj => ?_⟩
  · rw [exec_decodeWord, perform_of_isetDecode hop, hallowed]
  · rw [exec_instrOf hj, hallowed]

/-! ### Spanned instructions -/

theorem entryAgrees_of_allowed {s : State} {p : Package} (h : EntryAllowed s p) : entryAgrees s.entry p.trail.len = true := by
  rcases h with h | ⟨l, h, hl⟩
  · rw [h]; rfl
  · rw [h]; exact hl

theorem slot_eq_leading {p : Package} {k : Nat} {l : SpanPart} (h : p.slot k = some (.leading l)) : l = p.lead := by
  unfold Package.slot at h
  split at h
  · cases h
  · split at h <;> cases h; rfl

/-- A package that passes its two checks, IIDX naming its leading part, goes on to the next package. -/
theorem runPackage_leading {p : Package} {s : State} {l : SpanPart} (hentry : EntryAllowed s p) (hzero : p.zero.isZero = true)
    (hslot : p.slot s.iidx.val = some (.leading l)) : runPackage p s = runSpanned p s := by
  simp [runPackage, entryAgrees_of_allowed hentry, hzero, hslot]

theorem runSpanned_joined {p : Package} {s : State} {w : InstrWord}
    (h : joinParts p.lead (trailOf (s.fetch (s.ipmar + 1#128)).1) = some w) :
    runSpanned p s = perform w ((s.fetch (s.ipmar + 1#128)).2.setShape p.shape) := by
  simp only [runSpanned, h]

theorem fetch_impl (s : State) (a : Word) : (s.fetch a).2.impl = s.impl := by
  rcases s.fetch_state a with h | h <;> rw [h]; rfl

theorem fetch_opl (s : State) (a : Word) : (s.fetch a).2.opl = s.opl := by
  rcases s.fetch_state a with h | h <;> rw [h]; rfl

/-- Settles O12: the joined word is run in the state after the second fetch, which the fetch leaves with the same ISET and OPL. -/
theorem spannedPackageRunsItsInstruction : Obligations.SpannedPackageRunsItsInstruction := by
  intro i p s l w op hi hentry hzero hslot hjoin hop hpriv
  cases slot_eq_leading hslot
  have hruns : exec i s = exec (decodeWord w) ((s.fetch (s.ipmar + 1#128)).2.setShape p.shape) := by
    rw [exec_package hi, runPackage_leading hentry hzero hslot, runSpanned_joined hjoin, exec_decodeWord]
  obtain ⟨t, ht, _, hnamed⟩ := instructionWordRuns w ((s.fetch (s.ipmar + 1#128)).2.setShape p.shape) op
    (by rwa [State.setShape_impl, fetch_impl]) (by rwa [State.setShape_impl, State.setShape_opl, fetch_impl, fetch_opl])
  exact ⟨t, hruns.trans ht, ht, hnamed⟩

end Sys2Proof.Machine
end

section
/-! PROOFS. Which line of ISET is recognised for a word, by its owner and the word's primary operation code (O21). -/

namespace Sys2Proof.Machine

open Sys2Proof

theorem mem_isetLines {c : Impl} {w : InstrWord} {e : IsetEntry} :
    e ∈ isetLines c w ↔ e ∈ c.iset ∧ e.word = w ∧ recognised c e = true := by
  rw [isetLines, List.mem_filter, Bool.and_eq_true, beq_iff_eq]

theorem onPrivilegedState_eq_false {op : Op} (h : onPrivilegedState op = false) :
    (∀ o, op ≠ .privilegedState o) ∧ ∀ o, op = .composite o → ∀ a ∈ o.actions, a.action.privileged = false := by
  refine ⟨?_, ?_⟩
  · rintro o rfl
    cases h
  · rintro o rfl
    simpa only [onPrivilegedState, List.any_eq_false, Bool.not_eq_true] using h

theorem extensionMechanism_eq_false {op : Op} (h : extensionMechanism op = false) :
    (∀ o, op ≠ .privilegedState o) ∧ (∀ o, op ≠ .sendInterrupt o) ∧
      ∀ o, op = .composite o → ∀ a ∈ o.actions, a.action.privileged = false ∧ a.action.sends = false := by
  refine ⟨?_, ?_, ?_⟩
  · rintro o rfl
    cases h
  · rintro o rfl
    cases h
  · rintro o rfl
    simpa only [extensionMechanism, List.any_eq_false, Bool.not_eq_true, Bool.or_eq_false_iff] using h

theorem usedByBase_eq_false {c : Impl} {w : InstrWord} (h : usedByBase c w = false) :
    ∀ b ∈ c.iset, b.owner = .base → wordLength b.word = wordLength w → primaryCode b.word ≠ primaryCode w := by
  intro b hb howner hlength hcode
  have hno := List.any_eq_false.mp h b hb
  simp [howner, hlength, hcode] at hno

theorem implemented_iff {c : Impl} {aen aei : BitVec 64} :
    implemented c aen aei = true ↔ aen = 0#64 ∨ (aen, aei) ∈ c.aeSet := by
  rw [implemented, Bool.or_eq_true, beq_iff_eq, List.contains_iff_mem]

theorem recognised_base {c : Impl} {e : IsetEntry} (ho : e.owner = .base) (h : recognised c e = true) :
    reservedForExtensions e.word = false ∧ extensionMechanism e.op = false := by
  simpa only [recognised, ho, Bool.and_eq_true, Bool.not_eq_true'] using h

theorem recognised_extension {c : Impl} {e : IsetEntry} {aen aei : BitVec 64} (ho : e.owner = .extension aen aei)
    (h : recognised c e = true) :
    implemented c aen aei = true ∧ (reservedForExtensions e.word = true ∨
      aen = 1#64 ∧ usedByBase c e.word = false ∧ onPrivilegedState e.op = false) := by
  simpa only [recognised, ho, Bool.and_eq_true, Bool.or_eq_true, Bool.not_eq_true', beq_iff_eq, and_assoc] using h

/-- Settles O21: the one recognised line, by its owner. -/
theorem reservedCodesNeedAnExtension : Obligations.ReservedCodesNeedAnExtension := by
  intro c w op hop
  obtain ⟨e, hlines, rfl⟩ := isetDecode_eq_some.mp hop
  obtain ⟨hmem, rfl, hrec⟩ := mem_isetLines.mp (hlines ▸ List.mem_singleton_self e)
  refine ⟨e, hmem, rfl, rfl, fun e' he' hw hr => ?_, fun ho => ?_, fun aen aei ho => ?_⟩
  · have hline : e' ∈ isetLines c e.word := mem_isetLines.mpr ⟨he', hw, hr⟩
    rwa [hlines, List.mem_singleton] at hline
  · obtain ⟨hcode, hmechanism⟩ := recognised_base ho hrec
    exact ⟨hcode, extensionMechanism_eq_false hmechanism⟩
  · obtain ⟨himpl, hcode⟩ := recognised_extension ho hrec
    refine ⟨implemented_iff.mp himpl, hcode.imp_right fun ⟨haen, hunused, hpriv⟩ => ?_⟩
    obtain ⟨hstate, hactions⟩ := onPrivilegedState_eq_false hpriv
    exact ⟨haen, hstate, hactions, usedByBase_eq_false hunused⟩

end Sys2Proof.Machine
end

section
/-! PROOFS. The step runs what the fetched package word decodes to (O7); the exceptions that the instruction cycle raises itself, at a
reserved format (O9) and at an unrecognised instruction word (O18). -/

namespace Sys2Proof.Machine

open Sys2Proof

/-! ### The fetch -/

theorem fetchDecoded_backed {s : State} (hb : s.isBacked (s.wordLocation s.ipmar) = true)
    (ho : s.oldContents (s.wordLocation s.ipmar) = []) :
    fetchDecoded s = (decodePackage (Memory.readWord s.mem (s.wordLocation s.ipmar)), s) := by
  simp only [fetchDecoded, State.fetch_backed hb ho]

/-- Settles O7: step 0 does nothing, and step 1 hands the decoded instruction on with the state after the fetch. -/
theorem stepRunsTheDecodedInstruction : Obligations.StepRunsTheDecodedInstruction := by
  intro s i hn
  have hturn := s.interruptTurn_none hn
  refine ⟨fun hb ho hd => step_decoded hturn ?_, fun hf => ⟨step_decoded hturn (Prod.ext hf rfl), s.fetch_state s.ipmar⟩⟩
  rw [fetchDecoded_backed hb ho, hd]

/-! ### What a failed check leaves -/

theorem levelOf_base {s : State} (h : BaseLevels s) {x : ExcId} (hx : x ≠ .insufficientPrivilege) :
    s.impl.levelOf s.opl x = 1 := by
  have hlevels : s.impl.levels = {} := h
  cases x with
  | insufficientPrivilege => exact absurd rfl hx
  | _ => simp only [Impl.levelOf, hlevels]

theorem levelOf_insufficientPrivilege {s : State} (h : BaseLevels s) :
    s.impl.levelOf s.opl .insufficientPrivilege = s.opl + 1 :=
  congrArg (ExcLevels.insufficientAt · s.opl) h

/-- With the levels of the base architecture every exception but that of the privilege check is of level 1 (R311). -/
theorem tookException_raise {s : State} (h : BaseLevels s) {x : ExcId} (hx : x ≠ .insufficientPrivilege) :
    TookException x 1 s (s.raise x) := by
  rw [State.raise, levelOf_base h hx]
  exact tookException_trapEntry s s.free s.depend x 1

/-- The privilege check that fails leaves the instruction undone (R173, R302). -/
theorem tookException_attempt (s : State) {priv : Nat} (h : s.opl < priv) (w : Flow) (f : State → Effect) :
    TookException .insufficientPrivilege (s.impl.levelOf s.opl .insufficientPrivilege) s (s.attempt priv w f) := by
  rw [State.attempt, if_pos h]
  exact tookException_trapEntry s s.free _ _ _

/-- Settles O9: the codes from 157 on decode to no row. -/
theorem reservedFormatTraps : Obligations.ReservedFormatTraps := by
  intro s hn hlevels hb ho hcode
  have hfetch := fetchDecoded_backed hb ho
  rw [decodePackage_reserved _ (by rwa [formatField_eq])] at hfetch
  exact ⟨_, step_reserved (s.interruptTurn_none hn) hfetch, tookException_raise hlevels (by decide)⟩

/-! ### Instruction words without one recognised line -/

theorem perform_unrecognised {w : InstrWord} {s : State} (h : isetLines s.impl w = []) :
    perform w s = .next (s.raise .invalidInstruction) := by
  rw [perform, h]

theorem perform_conflict {w : InstrWord} {s : State} (h : 2 ≤ (isetLines s.impl w).length) :
    perform w s = .refused .conflictingEncodings := by
  unfold perform
  split
  · next hl => rw [hl] at h; exact absurd h (by decide)
  · next hl => rw [hl] at h; exact absurd h (Nat.not_succ_le_self 1)
  · rfl

/-- Settles O18: the row of the word runs it, and ISET has no line for it. -/
theorem unrecognisedInstructionTraps : Obligations.UnrecognisedInstructionTraps := by
  intro w s hlevels hnone
  exact ⟨_, (exec_decodeWord w s).trans (perform_unrecognised hnone), tookException_raise hlevels (by decide)⟩

end Sys2Proof.Machine
end

section
/-! PROOFS. What a package row does, by its checks and by what IIDX names: the checks of the package (O14), a whole instruction (O10, O15),
a leading part that the next package does not complete (O13), and the two refusals (O16). -/

namespace Sys2Proof.Machine

open Sys2Proof

/-! ### The checks -/

theorem runPackage_disagrees {p : Package} {s : State} (h : entryAgrees s.entry p.trail.len = false) :
    runPackage p s = .next (s.raise .invalidSpannedInstruction) := by
  simp [runPackage, h]

theorem runPackage_nonzero {p : Package} {s : State} (hentry : EntryAllowed s p) (hzero : p.zero.isZero = false) :
    runPackage p s = .next (s.raise .invalidInstructionPackage) := by
  simp [runPackage, entryAgrees_of_allowed hentry, hzero]

/-- Settles O14: the check of R169 comes first, then that of R168, and neither looks at IIDX. -/
theorem packageChecksTrap : Obligations.PackageChecksTrap := by
  intro i p s hi hlevels
  refine ⟨fun l hseq hagree => ⟨_, (exec_package hi s).trans (runPackage_disagrees ?_), tookException_raise hlevels (by decide)⟩,
    fun hentry hzero => ⟨_, (exec_package hi s).trans (runPackage_nonzero hentry hzero), tookException_raise hlevels (by decide)⟩⟩
  rw [hseq]
  exact hagree

/-! ### A whole instruction -/

theorem runPackage_whole {p : Package} {s : State} {w : InstrWord} (hentry : EntryAllowed s p) (hzero : p.zero.isZero = true)
    (hslot : p.slot s.iidx.val = some (.whole w)) : runPackage p s = perform w (s.setShape p.shape) := by
  simp [runPackage, entryAgrees_of_allowed hentry, hzero, hslot]

/-- A package that passes its checks runs the row of the whole instruction that IIDX names, its own n and l noted. -/
theorem exec_package_whole {i : Instr} {p : Package} {s : State} {w : InstrWord} (hi : i.package? = some p)
    (hentry : EntryAllowed s p) (hzero : p.zero.isZero = true) (hslot : p.slot s.iidx.val = some (.whole w)) :
    exec i s = exec (decodeWord w) (s.setShape p.shape) := by
  rw [exec_package hi, runPackage_whole hentry hzero hslot, exec_decodeWord]

/-- Settles O10: noting the package's shape changes neither ISET nor OPL. -/
theorem packageRunsItsInstruction : Obligations.PackageRunsItsInstruction := by
  intro i p s w op hi hentry hzero hslot hop hpriv
  obtain ⟨t, ht, _, hnamed⟩ := instructionWordRuns w (s.setShape p.shape) op hop hpriv
  exact ⟨t, (exec_package_whole hi hentry hzero hslot).trans ht, ht, hnamed⟩

/-- The n and l of the package are nothing that an exception saves or writes. -/
theorem tookException_setShape (sh : Shape) {x : ExcId} {q : Nat} {s t : State} :
    TookException x q (s.setShape sh) t ↔ TookException x q s t := Iff.rfl

/-- Settles O15: what the row of the instruction word takes, the package row takes. -/
theorem packageInstructionTraps : Obligations.PackageInstructionTraps := by
  intro i p s w hi hlevels hentry hzero hslot
  rw [exec_package_whole hi hentry hzero hslot]
  refine ⟨fun hnone => ?_, fun op hop hpriv => ?_⟩
  · obtain ⟨t, ht, htook⟩ := unrecognisedInstructionTraps w (s.setShape p.shape) hlevels hnone
    exact ⟨t, ht, (tookException_setShape p.shape).mp htook⟩
  · refine ⟨_, (exec_decodeWord w _).trans (perform_of_isetDecode hop), (tookException_setShape p.shape).mp ?_⟩
    rw [← levelOf_insufficientPrivilege hlevels]
    exact tookException_attempt (s.setShape p.shape) hpriv _ _

/-! ### A leading part -/

theorem runSpanned_uncompleted {p : Package} {s : State} (h : joinParts p.lead (trailOf (s.fetch (s.ipmar + 1#128)).1) = none) :
    runSpanned p s = .next ((s.fetch (s.ipmar + 1#128)).2.raise .invalidSpannedInstruction) := by
  simp only [runSpanned, h]

/-- A fetch draws at most a free value, which an exception does not see. -/
theorem tookException_fetch {x : ExcId} {q : Nat} {s t : State} {a : Word} (h : TookException x q (s.fetch a).2 t) :
    TookException x q s t := by
  rcases s.fetch_state a with hf | hf <;> rw [hf] at h <;> exact h

/-- Settles O13: the second fetch leaves IPMAR and IIDX at the leading part. -/
theorem uncompletedLeadingPartTraps : Obligations.UncompletedLeadingPartTraps := by
  intro i p s l hi hlevels hentry hzero hslot hjoin
  cases slot_eq_leading hslot
  have hafter : BaseLevels (s.fetch (s.ipmar + 1#128)).2 := (congrArg Impl.levels (fetch_impl s _)).trans hlevels
  refine ⟨_, ?_, tookException_fetch (tookException_raise hafter (by decide))⟩
  rw [exec_package hi, runPackage_leading hentry hzero hslot, runSpanned_uncompleted hjoin]

/-! ### The refusals -/

/-- From number n on a package names no instruction (R126, R128). -/
theorem slot_eq_none {p : Package} {k : Nat} (h : p.shape.n ≤ k) : p.slot k = none := by
  have hwhole : p.whole[k]? = none := List.getElem?_eq_none (Nat.le_of_add_right_le h)
  have hlead : ¬ (k = p.whole.length ∧ p.lead.len ≠ .none) := by
    rintro ⟨rfl, hl⟩
    simp [Package.shape, hl] at h
  simp only [Package.slot, hwhole, if_neg hlead]

theorem runPackage_missing {p : Package} {s : State} (hentry : EntryAllowed s p) (hzero : p.zero.isZero = true)
    (hslot : p.slot s.iidx.val = none) : runPackage p s = .refused .noInstructionAtIndex := by
  simp [runPackage, entryAgrees_of_allowed hentry, hzero, hslot]

/-- The recognised lines for a word are as many as the recognised lines have that word. -/
theorem length_isetLines (c : Impl) (w : InstrWord) :
    (isetLines c w).length = ((c.iset.filter (recognised c)).map IsetEntry.word).count w := by
  rw [isetLines, ← List.filter_filter, ← List.countP_eq_length_filter, List.count, List.countP_map]
  rfl

theorem nodup_of_wf {c : Impl} (h : c.wf = true) : ((c.iset.filter (recognised c)).map IsetEntry.word).Nodup := by
  obtain ⟨-, hfree⟩ := Bool.and_eq_true_iff.mp h
  exact of_decide_eq_true hfree

/-- Settles O16: the slots end at n; two lines are no instruction, and a legal ISET has no word twice. -/
theorem missingIndexRefused : Obligations.MissingIndexRefused := by
  refine ⟨fun i p s hi hentry hzero hn => ?_, fun w s h => (exec_decodeWord w s).trans (perform_conflict h), fun c w hc => ?_⟩
  · rw [exec_package hi, runPackage_missing hentry hzero (slot_eq_none hn)]
  · rw [length_isetLines]
    exact List.nodup_iff_count_le_one.mp (nodup_of_wf hc) w

end Sys2Proof.Machine
end

section
/-! PROOFS. NULL, as its named row, in a package and as an instruction word (O11). -/

namespace Sys2Proof.Machine

open Sys2Proof

theorem exec_null_allowed {o : NullOp} {s : State} (hp : o.priv ≤ s.opl) :
    exec (.null o) s = .next (s.conclude {} ⟨s, .next⟩) :=
  congrArg Host.Outcome.next (s.attempt_allowed {} (nullEffect o) hp)

/-- The end of a step whose instruction wrote nothing. -/
theorem idle_conclude (s : State) (w : Flow) :
    ComputesOnly s (s.conclude w ⟨s, .next⟩) ∧ SameRegisters s (s.conclude w ⟨s, .next⟩) ∧
      Advanced s (s.conclude w ⟨s, .next⟩) := by
  have hsame : s.Computed s := rfl
  exact ⟨computesOnly_conclude hsame w,
    sameRegisters_of_eq (s.conclude_next_gpr s w) (s.conclude_next_rnr s w) (s.conclude_next_cr s w), advanced_conclude hsame w⟩

/-- Settles O11: the package rows and the word rows answer what the row of NULL answers, by O10 and O17. -/
theorem everyRowCompletesWithNull : Obligations.EveryRowCompletesWithNull := by
  refine ⟨fun o s hp => ?_, fun i p s w o hi hentry hzero hslot hop hp => ?_, fun w s o hop hp => ?_⟩
  · obtain ⟨honly, hregs, hadv⟩ := idle_conclude s {}
    exact ⟨_, exec_null_allowed hp, hregs, honly, hadv⟩
  · obtain ⟨t, ht, -, hnamed⟩ := packageRunsItsInstruction i p s w (.null o) hi hentry hzero hslot hop hp
    cases (hnamed _ rfl).symm.trans (exec_null_allowed hp)
    exact ⟨_, ht, idle_conclude (s.setShape p.shape) {}⟩
  · obtain ⟨t, ht, -, hnamed⟩ := instructionWordRuns w s (.null o) hop hp
    cases (hnamed _ rfl).symm.trans (exec_null_allowed hp)
    exact ⟨_, ht, idle_conclude s {}⟩

end Sys2Proof.Machine
end

section
/-! PROOFS. An instruction that writes one register, or delivers a report, and goes on: what the end of its step leaves. -/

namespace Sys2Proof.Machine

open Sys2Proof

/-! ### One register written -/

/-- A register has the size of a semi-register or of a word. -/
theorem width_bounds (r : Reg) : 64 ≤ r.width ∧ r.width ≤ 128 := by
  cases r <;> simp [Reg.width]

namespace State

/-- A register lies in the two register sets. -/
theorem readReg_congr {s t : State} (hg : t.gpr = s.gpr) (hr : t.rnr = s.rnr) (r : Reg) : t.readReg r = s.readReg r := by
  cases r <;> simp only [readReg, sgpr, srnr, hg, hr]

@[simp] theorem conclude_next_readReg (s t : State) (w : Flow) (r : Reg) :
    (s.conclude w ⟨t, .next⟩).readReg r = t.readReg r :=
  readReg_congr (s.conclude_next_gpr t w) (s.conclude_next_rnr t w) r

theorem computed_writeReg (s : State) (r : Reg) (v : Word) : s.Computed (s.writeReg r v) := by
  cases r <;> rfl

/-- A register written holds the bits of the value that it has room for. -/
theorem toNat_readReg_writeReg (s : State) (r : Reg) (v : Word) :
    ((s.writeReg r v).readReg r).toNat = v.toNat % 2 ^ r.width := by
  have hwide : v.toNat % 2 ^ 128 = v.toNat := Nat.mod_eq_of_lt v.isLt
  rw [readReg_writeReg]
  cases r with
  | gpr | rnr => exact hwide.symm
  | sgpr | srnr => exact BitVec.toNat_setWidth_of_le (by decide)

theorem getLsbD_readReg_writeReg (s : State) {r : Reg} (v : Word) {m : Nat} (hm : m < r.width) :
    ((s.writeReg r v).readReg r).getLsbD m = v.getLsbD m := by
  rw [BitVec.getLsbD, toNat_readReg_writeReg, Nat.testBit_mod_two_pow, decide_eq_true hm, Bool.true_and, BitVec.getLsbD]

end State

/-- Which registers were written shows in the register sets and the CRs. -/
theorem onlyRegister_congr {r : Reg} {s t u : State} (hg : u.gpr = t.gpr) (hr : u.rnr = t.rnr) (hc : u.cr = t.cr)
    (h : OnlyRegister r s t) : OnlyRegister r s u := by
  simpa only [OnlyRegister, State.sgpr, State.srnr, hg, hr, hc] using h

/-- An instruction that writes one register writes no other and advances. -/
theorem writeReg_conclude (s : State) (r : Reg) (v : Word) (w : Flow) :
    OnlyRegister r s (s.conclude w ⟨s.writeReg r v, .next⟩) ∧ ComputesOnly s (s.conclude w ⟨s.writeReg r v, .next⟩) ∧
      Advanced s (s.conclude w ⟨s.writeReg r v, .next⟩) :=
  ⟨onlyRegister_congr (s.conclude_next_gpr _ w) (s.conclude_next_rnr _ w) (s.conclude_next_cr _ w) (s.onlyRegister_writeReg r v),
    computesOnly_conclude (s.computed_writeReg r v) w, advanced_conclude (s.computed_writeReg r v) w⟩

/-! ### Other ends of a step -/

/-- The end of a step whose instruction wrote nothing and transfers control. -/
theorem transfer_conclude (s : State) (w : Flow) (a : Word) :
    ComputesOnly s (s.conclude w ⟨s, .transfer a⟩) ∧ SameRegisters s (s.conclude w ⟨s, .transfer a⟩) ∧
      TransferredTo a s (s.conclude w ⟨s, .transfer a⟩) := by
  rw [conclude_transfer, State.controlTransfer_eq]
  exact ⟨⟨⟨⟨fun _ => rfl, rfl, rfl⟩, ⟨rfl, rfl, ⟨fun _ => rfl, fun _ => rfl, fun _ => rfl, fun _ => rfl⟩, rfl⟩, rfl, rfl⟩, rfl⟩,
    sameRegisters_of_eq rfl rfl rfl, rfl, rfl, rfl⟩

/-- The end of a step whose instruction wrote one CR. -/
theorem setCr_conclude (s : State) (i : Fin 128) (b : Bool) (w : Flow) :
    ComputesOnly s (s.conclude w ⟨s.setCr i b, .next⟩) ∧ Advanced s (s.conclude w ⟨s.setCr i b, .next⟩) ∧
      ∀ j : Fin 128, (s.conclude w ⟨s.setCr i b, .next⟩).cr[j] = if j = i then b else s.cr[j] := by
  have hcomputed : s.Computed (s.setCr i b) := rfl
  refine ⟨computesOnly_conclude hcomputed w, advanced_conclude hcomputed w, fun j => ?_⟩
  rw [State.conclude_next_cr, s.cr_setCr]

/-! ### Reports -/

/-- The bit that a report replaces is the outcome, and the register keeps the others. -/
theorem getLsbD_depositBit (old : Word) {n m : Nat} (hm : m < 128) (ok : Bool) :
    (depositBits old n 1 (if ok then 1#128 else 0#128)).getLsbD m = if m = n then ok else old.getLsbD m := by
  rw [getLsbD_depositBits]
  by_cases h : m = n
  · subst h
    rw [if_pos ⟨Nat.le_refl _, Nat.lt_succ_self _, hm⟩, if_pos rfl, Nat.sub_self]
    cases ok <;> rfl
  · rw [if_neg (by omega), if_neg h]

/-- An instruction whose effect is a report delivers it, whatever its form, and does nothing else (R201, R259). A bit is reported in a
register that has it. -/
theorem reported_conclude (s : State) {r : Report} (hr : r.wf = true) (ok : Bool) (w : Flow) :
    Reported r ok s (s.conclude w (s.deliver r ok)) ∧ ComputesOnly s (s.conclude w (s.deliver r ok)) := by
  cases r with
  | register dst yes no =>
    obtain ⟨honly, hcomputes, hadv⟩ := writeReg_conclude s dst (if ok then yes else no) w
    refine ⟨⟨?_, honly, hadv⟩, hcomputes⟩
    exact (congrArg BitVec.toNat (s.conclude_next_readReg _ w dst)).trans (s.toNat_readReg_writeReg dst _)
  | bit dst n =>
    obtain ⟨honly, hcomputes, hadv⟩ :=
      writeReg_conclude s dst (depositBits (s.readReg dst) n.val 1 (if ok then 1#128 else 0#128)) w
    refine ⟨⟨fun m hm => ?_, honly, hadv⟩, hcomputes⟩
    simp only [State.deliver]
    rw [State.conclude_next_readReg, s.getLsbD_readReg_writeReg _ hm, getLsbD_depositBit _ (Nat.lt_of_lt_of_le hm (width_bounds dst).2)]
  | carry i =>
    obtain ⟨hcomputes, hadv, hcr⟩ := setCr_conclude s (i.castLE (by decide)) ok w
    refine ⟨⟨(hcr _).trans (if_pos rfl), fun j hj => (hcr j).trans (if_neg fun e => hj (congrArg Fin.val e)),
      fun g => ?_, fun q => ?_, hadv⟩, hcomputes⟩
    · simp only [State.deliver, State.conclude_next_gpr, State.setCr_gpr]
    · simp only [State.deliver, State.conclude_next_rnr, State.setCr_rnr]
  | transferIf sense target =>
    by_cases h : ok = sense
    · obtain ⟨hcomputes, hregs, hto⟩ := transfer_conclude s w (s.address target)
      simpa only [Reported, State.deliver, h, beq_self_eq_true, if_true] using And.intro ⟨hregs, hto⟩ hcomputes
    · obtain ⟨hcomputes, hregs, hadv⟩ := idle_conclude s w
      simpa only [Reported, State.deliver, beq_iff_eq, h, if_false] using And.intro ⟨hregs, hadv⟩ hcomputes
  | implementation k dst =>
    obtain ⟨honly, hcomputes, hadv⟩ := writeReg_conclude s dst (Config.reported k ok (s.readReg dst)) w
    exact ⟨⟨honly, hadv⟩, hcomputes⟩

end Sys2Proof.Machine
end

section
/-! PROOFS. AVI-OBTAIN and AE-QUERY (O22, O23). -/

namespace Sys2Proof.Machine

open Sys2Proof

theorem exec_aviObtain_allowed {o : AviObtain} {s : State} (hp : o.priv ≤ s.opl) :
    exec (.aviObtain o) s = .next (s.conclude (aviObtainFlow o) (aviObtainEffect o s)) :=
  congrArg Host.Outcome.next (s.attempt_allowed _ (aviObtainEffect o) hp)

theorem exec_aeQuery_allowed {o : AeQuery} {s : State} (hp : o.priv ≤ s.opl) :
    exec (.aeQuery o) s = .next (s.conclude (aeQueryFlow o) (aeQueryEffect o s)) :=
  congrArg Host.Outcome.next (s.attempt_allowed _ (aeQueryEffect o) hp)

/-! ### A 64-bit result extended over its destination -/

/-- In every form of extension the low 64 bits of the destination are the result (R200). -/
theorem extractLsb'_readReg_fill (s : State) (r : Reg) (v : SemiWord) (e : Extend) :
    ((s.fill r 64 (v.setWidth 128) e).readReg r).extractLsb' 0 64 = v := by
  apply BitVec.eq_of_getLsbD_eq
  intro i hi
  rw [BitVec.getLsbD_extractLsb', Nat.zero_add, getLsbD_readReg_fill _ _ _ _ _ (width_bounds r).1 hi, BitVec.getLsbD_setWidth,
    decide_eq_true hi, decide_eq_true (show i < 128 by omega), Bool.true_and, Bool.true_and]

theorem extendOver_zero_setWidth (v : SemiWord) (old : Word) : extendOver .zero 64 (v.setWidth 128) old = v.setWidth 128 := by
  apply BitVec.eq_of_getLsbD_eq
  intro i hi
  rw [extendOver, BitVec.getLsbD_and, BitVec.getLsbD_setWidth, getLsbD_lowMask]
  by_cases h : i < 64
  · simp [h, hi]
  · simp [BitVec.getLsbD_of_ge v i (Nat.not_lt.mp h)]

/-- Zero-extended, the result is all that the destination holds. -/
theorem readReg_fill_zero (s : State) (r : Reg) (v : SemiWord) :
    (s.fill r 64 (v.setWidth 128) .zero).readReg r = v.setWidth 128 := by
  rw [State.fill, extendOver_zero_setWidth, State.readReg_writeReg, BitVec.setWidth_setWidth_of_le v (by decide), BitVec.setWidth_eq,
    ite_self]

/-- Settles O22: the instruction fills its destination with the AVI, and a fill is one register written. -/
theorem aviObtainCompletes : Obligations.AviObtainCompletes := by
  intro o s hp
  obtain ⟨honly, hcomputes, hadv⟩ := writeReg_conclude s o.dst
    (extendOver o.ext 64 (s.impl.avi.setWidth 128) (s.readReg o.dst)) (aviObtainFlow o)
  have hread : (s.conclude (aviObtainFlow o) (aviObtainEffect o s)).readReg o.dst =
      (s.fill o.dst 64 (s.impl.avi.setWidth 128) o.ext).readReg o.dst := s.conclude_next_readReg _ _ _
  refine ⟨_, exec_aviObtain_allowed hp, ?_, fun hzero => ?_, honly, hcomputes, hadv⟩
  · rw [hread, extractLsb'_readReg_fill]
  · rw [hread, hzero, readReg_fill_zero]

/-! ### The pair -/

theorem aeSupported_eq (c : Impl) (aen aei : Word) :
    aeSupported c aen aei = decide ((aen.setWidth 64, aei.setWidth 64) ∈ c.aeSet) := by
  rw [Bool.eq_iff_iff, aeSupported, List.contains_iff_mem, decide_eq_true_iff]

/-- Settles O23: the effect is the report of whether the pair is supported. -/
theorem aeQueryCompletes : Obligations.AeQueryCompletes := by
  intro o s hwf hp
  rw [← aeSupported_eq]
  exact ⟨_, exec_aeQuery_allowed hp, reported_conclude s hwf _ _⟩

end Sys2Proof.Machine
end

section
/-! PROOFS. The carry-producing results are exact (O26): one addition with a carry-in, one bit wider than its operands, at any width. -/

namespace Sys2Proof.Machine

open Sys2Proof

/-- The addition that `sum129` and `sum65` are, at any width: one bit wider than its operands. -/
def carrySum {w : Nat} (a b : BitVec w) (c : Bool) : BitVec (w + 1) :=
  a.setWidth (w + 1) + b.setWidth (w + 1) + (BitVec.ofBool c).setWidth (w + 1)

/-! ### The model's results as this addition: a difference adds the complement (R215) -/

theorem result129_sum (a b : Word) (c : Option Bool) : result129 .sum a b c = carrySum a b (c.getD false) := rfl

theorem result129_difference (a b : Word) (c : Option Bool) :
    result129 .difference a b c = carrySum a (~~~b) (c.getD true) := rfl

theorem result65_sum (a b : SemiWord) (c : Option Bool) : result65 .sum a b c = carrySum a b (c.getD false) := rfl

theorem result65_difference (a b : SemiWord) (c : Option Bool) :
    result65 .difference a b c = carrySum a (~~~b) (c.getD true) := rfl

/-! ### The addition -/

section
variable {w : Nat} (a b : BitVec w) (c : Bool)

/-- Two operands below 2^w and a carry stay below 2^(w+1), so the wider addition never wraps. -/
theorem toNat_carrySum : (carrySum a b c).toNat = a.toNat + b.toNat + c.toNat := by
  have ha := a.isLt
  have hb := b.isLt
  have hc := c.toNat_le
  have hpow : 2 ^ (w + 1) = 2 ^ w * 2 := pow_succ 2 w
  have hcarry : ((BitVec.ofBool c).setWidth (w + 1)).toNat = c.toNat := by
    rw [BitVec.toNat_setWidth_of_le (by omega), BitVec.toNat_ofBool]
  rw [carrySum, BitVec.toNat_add, BitVec.toNat_add, hcarry, BitVec.toNat_setWidth_of_le (by omega),
    BitVec.toNat_setWidth_of_le (by omega), Nat.mod_add_mod, Nat.mod_eq_of_lt (by omega)]

/-- The complement of b is 2^w - 1 - b, so adding it takes b and one away from 2^w. -/
theorem toNat_carrySum_not : (carrySum a (~~~b) c).toNat + b.toNat + 1 = a.toNat + 2 ^ w + c.toNat := by
  have hb := b.isLt
  rw [toNat_carrySum, BitVec.toNat_not]
  omega

/-- The top bit of a difference says that there is no borrow. -/
theorem getLsbD_carrySum_not : (carrySum a (~~~b) c).getLsbD w = true ↔ b.toNat < a.toNat + c.toNat := by
  have htop : (carrySum a (~~~b) c).getLsbD w = decide (2 ^ w ≤ (carrySum a (~~~b) c).toNat) := BitVec.getLsbD_last _
  have hvalue := toNat_carrySum_not a b c
  rw [htop, decide_eq_true_iff]
  omega

/-- A sum without a carry-in adds nothing; a difference without one adds the one of the two's complement. -/
theorem carrySum_exact :
    (carrySum a b false).toNat = a.toNat + b.toNat ∧
    (carrySum a b c).toNat = a.toNat + b.toNat + c.toNat ∧
    (carrySum a (~~~b) true).toNat + b.toNat = a.toNat + 2 ^ w ∧
    ((carrySum a (~~~b) true).getLsbD w = true ↔ b.toNat ≤ a.toNat) ∧
    (carrySum a (~~~b) c).toNat + b.toNat + 1 = a.toNat + 2 ^ w + c.toNat ∧
    ((carrySum a (~~~b) c).getLsbD w = true ↔ b.toNat < a.toNat + c.toNat) :=
  ⟨toNat_carrySum a b false, toNat_carrySum a b c, Nat.succ.inj (toNat_carrySum_not a b true),
    (getLsbD_carrySum_not a b true).trans Nat.lt_succ_iff, toNat_carrySum_not a b c, getLsbD_carrySum_not a b c⟩

end

/-- Settles O26: both widths are the one addition, exact at every width. -/
theorem carryResultsAreExact : Obligations.CarryResultsAreExact := by
  unfold Obligations.CarryResultsAreExact
  simp only [result129_sum, result129_difference, result65_sum, result65_difference, Option.getD_none, Option.getD_some]
  exact ⟨carrySum_exact, carrySum_exact⟩

end Sys2Proof.Machine
end

section
/-! PROOFS. The vector instructions (O27): every element of the destination, and nothing else. -/

namespace Sys2Proof.Machine

open Sys2Proof

/-- A 'T' field T gives 2**(T+1) elements of 64 / 2**T bits (R232). -/
theorem count_elemBits_ofField (f : BitVec 2) :
    (VecType.ofField f).count = 2 ^ (f.toNat + 1) ∧ (VecType.ofField f).elemBits * 2 ^ f.toNat = 64 := by
  have hlt : f.toNat < 4 := f.isLt
  rw [VecType.ofField]
  generalize f.toNat = n at hlt
  interval_cases n <;> exact ⟨rfl, rfl⟩

/-- A 128-bit register holds all of what is written to it. -/
@[simp] theorem State.readReg_writeReg_wide (s : State) (r : WideReg) (v : Word) :
    (s.writeReg r.toReg v).readReg r.toReg = v := by
  have hwide : r.toReg.width = 128 := by cases r <;> rfl
  rw [State.readReg_writeReg, if_pos hwide]

/-- Each element of the destination is the operation on the operands' elements before (R233, R234). -/
theorem elem_vectorEffect (o : VectorClass) (s : State) {i : Nat} (hi : i < o.type.count) :
    elem ((vectorEffect o s).state.readReg o.dst.toReg) o.type i =
      ((vecOpOf o.op o.type (elem (s.readReg o.a.toReg) o.type i) (s.vecSource o.type o.b i)).extractLsb'
        0 o.type.elemBits).setWidth 64 := by
  rw [vectorEffect, State.readReg_writeReg_wide, elem_mapElems _ _ _ _ hi]

/-- Settles O27: the effect is one register written with the operation mapped over the elements. -/
theorem vectorCompletes : Obligations.VectorCompletes := by
  intro o s hp
  obtain ⟨honly, hcomputes, hadv⟩ := writeReg_conclude s o.dst.toReg
    (mapElems o.type (vecOpOf o.op o.type) (s.readReg o.a.toReg) (s.vecSource o.type o.b)) (vectorFlow o)
  have hread : (s.conclude (vectorFlow o) (vectorEffect o s)).readReg o.dst.toReg =
      (vectorEffect o s).state.readReg o.dst.toReg := s.conclude_next_readReg _ _ _
  refine ⟨_, exec_vector_allowed hp, fun f hf => ?_, fun i hi => ?_, honly, hcomputes, hadv⟩
  · rw [VectorClass.type, hf]
    exact count_elemBits_ofField f
  · rw [hread, elem_vectorEffect o s hi]

end Sys2Proof.Machine
end

section
/-! PROOFS. The element instructions: an extraction (O28), a deposition (O29) and the exception of an unaligned select (O30). -/

namespace Sys2Proof.Machine

open Sys2Proof

/-! ### Sizes of elements -/

/-- An element is a whole number of octets. -/
theorem eight_mul_elemOctets (t : VecType) : 8 * (t.elemBits / 8) = t.elemBits := by
  cases t <;> rfl

theorem elemOctets_pos (t : VecType) : 0 < t.elemBits / 8 := by
  cases t <;> decide

theorem elemBits_le (t : VecType) : t.elemBits ≤ 64 := by
  cases t <;> decide

/-- An element that lies within a register is one of those that its type counts. -/
theorem lt_count_of_elemBits_mul_le {t : VecType} {i : Nat} (h : t.elemBits * (i + 1) ≤ 128) : i < t.count := by
  cases t <;> simp only [VecType.count, VecType.elemBits] at * <;> omega

/-! ### What a select names -/

/-- A select by number or by octet offset names the element it gives the place of, where the register has that element. -/
theorem selectElement_eq_element {form : SelectForm} {t : VecType} {width i : Nat} {select : Word}
    (hi : t.elemBits * (i + 1) ≤ width)
    (h : (form = .index ∧ select.toNat = i) ∨ (form = .octetOffset ∧ select.toNat = t.elemBits / 8 * i)) :
    selectElement form t width select = .element i := by
  rcases h with ⟨rfl, h⟩ | ⟨rfl, h⟩
  · rw [selectElement, h, if_pos hi]
  · have hfits : 8 * (t.elemBits / 8 * i) + t.elemBits ≤ width := by
      rwa [← Nat.mul_assoc, eight_mul_elemOctets, ← Nat.mul_succ]
    rw [selectElement, h, Nat.mul_mod_right, if_neg (by decide), if_pos hfits, Nat.mul_div_cancel_left i (elemOctets_pos t)]

theorem selectElement_eq_unaligned {form : SelectForm} (hform : form = .octetOffset) {t : VecType} {select : Word}
    (h : select.toNat % (t.elemBits / 8) ≠ 0) (width : Nat) : selectElement form t width select = .unaligned := by
  rw [hform, selectElement, if_pos h]

/-! ### A result extended over its destination -/

/-- In every form of extension the low bits of the destination are the result (R200). -/
theorem lowBits_readReg_fill (s : State) {r : Reg} {n : Nat} (hn : n ≤ r.width) (v : Word) (e : Extend) :
    ((s.fill r n v e).readReg r).extractLsb' 0 n = v.extractLsb' 0 n := by
  apply BitVec.eq_of_getLsbD_eq
  intro i hi
  rw [BitVec.getLsbD_extractLsb', BitVec.getLsbD_extractLsb', Nat.zero_add, getLsbD_readReg_fill s r n v e hn hi]

/-- Zero-extended, the result is all that the destination holds. -/
theorem readReg_fill_zero_lt (s : State) (r : Reg) (n : Nat) (v : Word) :
    ((s.fill r n v .zero).readReg r).toNat < 2 ^ n := by
  rw [State.fill, s.toNat_readReg_writeReg]
  apply Nat.lt_of_le_of_lt (Nat.mod_le _ _)
  apply Nat.lt_pow_two_of_testBit
  intro i hi
  change (v &&& lowMask n).getLsbD i = false
  rw [BitVec.getLsbD_and, getLsbD_lowMask, decide_eq_false (Nat.not_lt.mpr hi), Bool.false_and, Bool.and_false]

/-- An element is the bits of its place (R231). -/
theorem extractLsb'_elem (v : Word) (t : VecType) (i : Nat) :
    ((elem v t i).setWidth 128).extractLsb' 0 t.elemBits = v.extractLsb' (t.elemBits * i) t.elemBits := by
  apply BitVec.eq_of_getLsbD_eq
  intro k hk
  have h64 : k < 64 := Nat.lt_of_lt_of_le hk (elemBits_le t)
  have h128 : k < 128 := by omega
  simp only [BitVec.getLsbD_extractLsb', BitVec.getLsbD_setWidth, Nat.zero_add, getLsbD_elem, hk, h64, h128,
    decide_true, Bool.true_and]

/-! ### A register with one element replaced -/

namespace State

theorem readReg_lt (s : State) (r : Reg) : (s.readReg r).toNat < 2 ^ r.width := by
  cases r with
  | gpr | rnr => exact BitVec.isLt _
  | sgpr | srnr => exact lt_of_eq_of_lt (BitVec.toNat_setWidth_of_le (by decide)) (BitVec.isLt _)

/-- A register holds all of a value that it has room for. -/
theorem readReg_writeReg_of_lt (s : State) {r : Reg} {v : Word} (h : v.toNat < 2 ^ r.width) :
    (s.writeReg r v).readReg r = v := by
  apply BitVec.eq_of_toNat_eq
  rw [toNat_readReg_writeReg, Nat.mod_eq_of_lt h]

end State

/-- Replacing an element that lies within the low w bits leaves the bits above them as they were. -/
theorem setElem_lt {v : Word} {w : Nat} (hv : v.toNat < 2 ^ w) {t : VecType} {i : Nat} (hi : t.elemBits * (i + 1) ≤ w)
    (x : BitVec 64) : (setElem v t i x).toNat < 2 ^ w := by
  apply Nat.lt_pow_two_of_testBit
  intro m hm
  change (setElem v t i x).getLsbD m = false
  have hplace : t.elemBits * (i + 1) = t.elemBits * i + t.elemBits := Nat.mul_succ ..
  rw [setElem, getLsbD_depositBits, if_neg (by omega)]
  exact Nat.testBit_lt_two_pow (Nat.lt_of_lt_of_le hv (Nat.pow_le_pow_right (by decide) hm))

/-- The elements that the destination has after one of them was replaced, a semi-register counting as its low half (R231). -/
theorem elem_readReg_setElem (s : State) {r : Reg} {t : VecType} {i j : Nat} (hi : t.elemBits * (i + 1) ≤ r.width)
    (hj : j < t.count) (x : BitVec 64) :
    elem ((s.writeReg r (setElem (s.readReg r) t i x)).readReg r) t j =
      if j = i then (x.extractLsb' 0 t.elemBits).setWidth 64 else elem (s.readReg r) t j := by
  rw [s.readReg_writeReg_of_lt (setElem_lt (s.readReg_lt r) hi x), elem_setElem _ _ _ _ _ hj]

/-! ### Extraction -/

theorem elementExtractEffect_element {o : ElementExtract} {s : State} {i : Nat}
    (h : selectElement o.form o.type o.src.width (s.value o.select) = .element i) :
    elementExtractEffect o s =
      ⟨s.fill o.dst o.type.elemBits ((elem (s.readReg o.src) o.type i).setWidth 128) o.ext, .next⟩ := by
  rw [elementExtractEffect, h]

/-- Settles O28: an extraction that completes is a fill of its destination, with the element where the select names one. -/
theorem elementExtractCompletes : Obligations.ElementExtractCompletes := by
  intro o s hp hsel
  have hexec := exec_elementExtract_allowed hp
  obtain ⟨v, hv⟩ := elementExtractEffect_completes hsel
  obtain ⟨honly, hcomputes, hadv⟩ :=
    writeReg_conclude s o.dst (extendOver o.ext o.type.elemBits v (s.readReg o.dst)) (elementExtractFlow o)
  rw [hv] at hexec
  refine ⟨_, hexec, fun i hi hnames => ?_, fun hzero => ?_, honly, hcomputes, hadv⟩ <;> rw [State.conclude_next_readReg]
  · have hfill : s.fill o.dst _ v _ = _ :=
      congrArg Effect.state (hv.symm.trans (elementExtractEffect_element (selectElement_eq_element hi hnames)))
    have hfits : o.type.elemBits ≤ o.dst.width := Nat.le_trans (elemBits_le o.type) (width_bounds o.dst).1
    rw [hfill, lowBits_readReg_fill s hfits, extractLsb'_elem]
  · rw [hzero]
    exact readReg_fill_zero_lt s o.dst _ v

/-! ### Deposition -/

theorem elementDepositEffect_element {o : ElementDeposit} {s : State} {i : Nat}
    (h : selectElement o.form o.type o.dst.width (s.value o.select) = .element i) :
    elementDepositEffect o s =
      ⟨s.writeReg o.dst (setElem (s.readReg o.dst) o.type i ((s.value o.value).setWidth 64)), .next⟩ := by
  rw [elementDepositEffect, h]

/-- The value deposited is the low bits of the operand. -/
theorem lowBits_setWidth (v : Word) (t : VecType) : (v.setWidth 64).extractLsb' 0 t.elemBits = v.extractLsb' 0 t.elemBits := by
  apply BitVec.eq_of_getLsbD_eq
  intro k hk
  have h64 : k < 64 := Nat.lt_of_lt_of_le hk (elemBits_le t)
  simp only [BitVec.getLsbD_extractLsb', BitVec.getLsbD_setWidth, Nat.zero_add, hk, h64, decide_true, Bool.true_and]

/-- Settles O29: a deposition that completes is one register written, with one element replaced where the select names one. -/
theorem elementDepositCompletes : Obligations.ElementDepositCompletes := by
  intro o s hp hsel
  have hexec := exec_elementDeposit_allowed hp
  obtain ⟨v, hv⟩ := elementDepositEffect_completes hsel
  obtain ⟨honly, hcomputes, hadv⟩ := writeReg_conclude s o.dst v (elementDepositFlow o)
  rw [hv] at hexec
  refine ⟨_, hexec, fun i hi hnames => ?_, honly, hcomputes, hadv⟩
  have hwrite : s.writeReg o.dst v = _ :=
    congrArg Effect.state (hv.symm.trans (elementDepositEffect_element (selectElement_eq_element hi hnames)))
  have hcount : i < o.type.count := lt_count_of_elemBits_mul_le (Nat.le_trans hi (width_bounds o.dst).2)
  rw [State.conclude_next_readReg, hwrite]
  refine ⟨?_, fun j hj hne => ?_⟩
  · rw [elem_readReg_setElem s hi hcount, if_pos rfl, lowBits_setWidth]
  · rw [elem_readReg_setElem s hi hj, if_neg hne]

/-! ### Unaligned selects -/

/-- With the levels of the base architecture an unaligned select is an exception of level 1 (R311). -/
theorem tookException_unalignedSelect {s : State} (h : BaseLevels s) (w : Flow) :
    TookException .unalignedElementSelect 1 s
      (s.conclude w ⟨s, .exception .unalignedElementSelect (s.impl.levelOf s.opl .unalignedElementSelect)⟩) := by
  rw [levelOf_base h (by decide)]
  exact tookException_conclude s s w _ 1

theorem elementExtractEffect_unaligned {o : ElementExtract} {s : State}
    (h : selectElement o.form o.type o.src.width (s.value o.select) = .unaligned) :
    elementExtractEffect o s =
      ⟨s, .exception .unalignedElementSelect (s.impl.levelOf s.opl .unalignedElementSelect)⟩ := by
  rw [elementExtractEffect, h]

theorem elementDepositEffect_unaligned {o : ElementDeposit} {s : State}
    (h : selectElement o.form o.type o.dst.width (s.value o.select) = .unaligned) :
    elementDepositEffect o s =
      ⟨s, .exception .unalignedElementSelect (s.impl.levelOf s.opl .unalignedElementSelect)⟩ := by
  rw [elementDepositEffect, h]

/-- Settles O30: both effects are the exception alone, which the end of the step takes. -/
theorem unalignedSelectTraps : Obligations.UnalignedSelectTraps := by
  refine fun s hlevels => ⟨fun o hp hform hoffset => ?_, fun o hp hform hoffset => ?_⟩
  · refine ⟨_, exec_elementExtract_allowed hp, ?_⟩
    rw [elementExtractEffect_unaligned (selectElement_eq_unaligned hform hoffset _)]
    exact tookException_unalignedSelect hlevels _
  · refine ⟨_, exec_elementDeposit_allowed hp, ?_⟩
    rw [elementDepositEffect_unaligned (selectElement_eq_unaligned hform hoffset _)]
    exact tookException_unalignedSelect hlevels _

end Sys2Proof.Machine
end

section
/-! PROOFS. An instruction that accesses memory and completes: what the end of its step leaves; loads (O31, O33) and stores (O32, O34). -/

namespace Sys2Proof.Machine

open Sys2Proof

/-! ### What an access leaves alone -/

/-- `u` differs from `s` at most in what a memory access of this processor may write: memory, what a fetch may still see of it, the record,
and the unpredictable values drawn. -/
def State.Accessed (s u : State) : Prop := u = { s with mem := u.mem, stale := u.stale, trace := u.trace, free := u.free }

namespace State

theorem accessed_store (s : State) (a n v : Nat) : s.Accessed (s.store a n v) := by
  rcases s.store_cases a n v with ⟨_, h⟩ | ⟨_, h⟩ <;> rw [h] <;> rfl

/-- From which state an instruction goes on decides the dependences recorded, and nothing else of how its step ends. -/
theorem conclude_goesOn_eq (s u : State) (w : Flow) {e : Effect} (h : e.outcome = .next ∨ ∃ a, e.outcome = .transfer a) :
    ∃ d, s.conclude w e = (u.conclude w e).setDepend d := by
  obtain ⟨t, o⟩ := e
  rcases h with rfl | ⟨a, rfl⟩
  · exact ⟨_, by rw [s.conclude_next, u.conclude_next]; rfl⟩
  · exact ⟨_, by rw [conclude_transfer, conclude_transfer]; rfl⟩

end State

theorem sameMemory_trans {s u t : State} (h : SameMemory s u) (k : SameMemory u t) : SameMemory s t := by
  obtain ⟨hoctets, hbacking, hstale⟩ := h
  obtain ⟨koctets, kbacking, kstale⟩ := k
  exact ⟨fun a => (koctets a).trans (hoctets a), kbacking.trans hbacking, kstale.trans hstale⟩

/-- An access from `s` led to `u` and its step ended in `t`: of memory and the record `t` has what the access left, of privileged state and
the outside what was there before. -/
structure AccessEnds (s u t : State) : Prop where
  memory : SameMemory u t
  trace : t.trace = u.trace
  privileged : SamePrivileged s t
  outside : SameOutside s t

section

variable {s u t : State}

theorem advanced_of_accessed (h : s.Accessed u) (ht : Advanced u t) : Advanced s t := by
  unfold State.Accessed at h
  rw [h] at ht
  exact ht

theorem sameRegisters_of_accessed (h : s.Accessed u) (ht : SameRegisters u t) : SameRegisters s t := by
  unfold State.Accessed at h
  rw [h] at ht
  exact ht

theorem onlyRegister_of_accessed {r : Reg} (h : s.Accessed u) (ht : OnlyRegister r u t) : OnlyRegister r s t := by
  unfold State.Accessed at h
  rw [h] at ht
  exact ht

/-- A report of an outcome looks at registers and at the place in the program. -/
theorem reported_of_accessed {r : Report} {ok : Bool} (h : s.Accessed u) (ht : Reported r ok u t) : Reported r ok s t := by
  unfold State.Accessed at h
  rw [h] at ht
  cases r <;> exact ht

/-- An access whose instruction then computes in registers at most, and goes on. -/
theorem accessEnds_conclude (h : s.Accessed u) {w : Flow} {e : Effect} (hgo : e.outcome = .next ∨ ∃ a, e.outcome = .transfer a)
    (he : ComputesOnly u (u.conclude w e)) : AccessEnds s u (s.conclude w e) := by
  obtain ⟨d, hd⟩ := s.conclude_goesOn_eq u w hgo
  obtain ⟨⟨hmem, hpriv, hout⟩, htrace⟩ := he
  unfold State.Accessed at h
  rw [h] at hpriv hout
  rw [hd]
  rw [h] at hmem htrace ⊢
  exact ⟨hmem, htrace, hpriv, hout⟩

/-- The end of a step whose instruction accessed memory and wrote no register. -/
theorem access_conclude (h : s.Accessed u) (w : Flow) :
    AccessEnds s u (s.conclude w ⟨u, .next⟩) ∧ SameRegisters s (s.conclude w ⟨u, .next⟩) ∧
      Advanced s (s.conclude w ⟨u, .next⟩) := by
  obtain ⟨hcomputes, hregs, hadv⟩ := idle_conclude u w
  have hends := accessEnds_conclude h (.inl rfl) hcomputes
  obtain ⟨d, hd⟩ := s.conclude_goesOn_eq u w (e := ⟨u, .next⟩) (.inl rfl)
  rw [hd] at hends ⊢
  exact ⟨hends, sameRegisters_of_accessed h hregs, advanced_of_accessed h hadv⟩

/-- The end of a step whose instruction accessed memory and wrote one register. -/
theorem access_writeReg_conclude (h : s.Accessed u) (r : Reg) (v : Word) (w : Flow) :
    AccessEnds s u (s.conclude w ⟨u.writeReg r v, .next⟩) ∧ OnlyRegister r s (s.conclude w ⟨u.writeReg r v, .next⟩) ∧
      Advanced s (s.conclude w ⟨u.writeReg r v, .next⟩) := by
  obtain ⟨honly, hcomputes, hadv⟩ := writeReg_conclude u r v w
  have hends := accessEnds_conclude h (.inl rfl) hcomputes
  obtain ⟨d, hd⟩ := s.conclude_goesOn_eq u w (e := ⟨u.writeReg r v, .next⟩) (.inl rfl)
  rw [hd] at hends ⊢
  exact ⟨hends, onlyRegister_of_accessed h honly, advanced_of_accessed h hadv⟩

/-- The end of a step whose instruction accessed memory and then reports an outcome, or does not. -/
theorem access_deliverAny_conclude (h : s.Accessed u) {r : Option Report} (hr : ∀ q, r = some q → q.wf = true) (ok : Bool)
    (w : Flow) :
    AccessEnds s u (s.conclude w (u.deliverAny r ok)) ∧ ReportedIf r ok s (s.conclude w (u.deliverAny r ok)) := by
  cases r with
  | none => exact access_conclude h w
  | some q =>
    obtain ⟨hreported, hcomputes⟩ := reported_conclude u (hr q rfl) ok w
    have hgo := deliverAny_goesOn u (some q) ok
    have hends := accessEnds_conclude h hgo hcomputes
    obtain ⟨d, hd⟩ := s.conclude_goesOn_eq u w hgo
    rw [hd] at hends ⊢
    refine ⟨hends, reported_of_accessed h ?_⟩
    cases q <;> exact hreported

end

/-! ### Loads -/

/-- `u` is `s` after a read of word location x by this processor: one event, and at most an unpredictable value drawn (R68, R84). -/
def State.ReadAt (s : State) (x : Nat) (u : State) : Prop :=
  u = s.note (.read x) ∨ u = (s.note (.read x)).drawn

theorem State.readAt_memReadW (s : State) (wa : Word) : s.ReadAt (s.wordLocation wa) (s.memReadW wa).2 := by
  rcases s.memReadW_cases wa with ⟨_, h⟩ | ⟨_, h⟩ <;> rw [h]
  · exact .inl rfl
  · exact .inr rfl

/-- A read of an aligned unit answers: from a backed location the unit, from an unbacked one any value (R68, R84). -/
theorem State.memRead_of_aligned (s : State) {oa : Word} {size : UnitSize} (h : s.octetLocation oa % size.octets = 0) :
    ∃ v u, s.memRead oa size = some (v, u) ∧ s.ReadAt (s.octetLocation oa / 16) u ∧
      (s.isBacked (s.octetLocation oa / 16) = true → HoldsUnit s (s.octetLocation oa) size.octets v) := by
  cases hb : s.isBacked (s.octetLocation oa / 16) with
  | true => exact ⟨_, _, s.memRead_backed h hb, .inl rfl, fun _ => holdsUnit_readLE s _ size.octets_le⟩
  | false => exact ⟨_, _, s.memRead_unbacked h hb, .inr rfl, fun hb => absurd hb Bool.false_ne_true⟩

/-- The end of a step whose instruction read a location and wrote one register. -/
theorem load_conclude {s u : State} {x : Nat} (h : s.ReadAt x u) (r : Reg) (v : Word) (w : Flow) :
    OnlyRegister r s (s.conclude w ⟨u.writeReg r v, .next⟩) ∧ OnlyRegistersMay s (s.conclude w ⟨u.writeReg r v, .next⟩) ∧
      (s.conclude w ⟨u.writeReg r v, .next⟩).trace = ⟨.self, .read x⟩ :: s.trace ∧
      Advanced s (s.conclude w ⟨u.writeReg r v, .next⟩) := by
  have haccessed : s.Accessed u := by rcases h with rfl | rfl <;> rfl
  have htrace : u.trace = ⟨.self, .read x⟩ :: s.trace := by rcases h with rfl | rfl <;> rfl
  have hmem : SameMemory s u := by rcases h with rfl | rfl <;> exact ⟨fun _ => rfl, rfl, rfl⟩
  obtain ⟨hends, honly, hadv⟩ := access_writeReg_conclude haccessed r v w
  exact ⟨honly, ⟨sameMemory_trans hmem hends.memory, hends.privileged, hends.outside⟩, hends.trace.trans htrace, hadv⟩

/-- Settles O31: the register is filled with what `MemReadW` answers, which on a backed location is the word of memory. -/
theorem loadWordCompletes : Obligations.LoadWordCompletes := by
  intro o s hp
  obtain ⟨honly, hrest, htrace, hadv⟩ := load_conclude (s.readAt_memReadW (s.address o.addr)) o.dst.toReg
    (s.memReadW (s.address o.addr)).1 (loadWordFlow o)
  refine ⟨_, exec_loadWord_allowed hp, fun hb => ?_, honly, hrest, htrace, hadv⟩
  rw [loadWordEffect, State.conclude_next_readReg, State.readReg_writeReg_wide, s.memReadW_backed hb]
  exact holdsUnit_readLE s _ (Nat.le_refl 16)

/-- Whether a value is the unit at a location is decided by its low bits. -/
theorem holdsUnit_of_lowBits {s : State} {a n : Nat} {v v' : Word} (h : HoldsUnit s a n v)
    (hlow : ∀ i < 8 * n, v'.getLsbD i = v.getLsbD i) : HoldsUnit s a n v' := by
  intro i hi
  rw [h i hi]
  apply BitVec.eq_of_getLsbD_eq
  intro k hk
  rw [BitVec.getLsbD_extractLsb', BitVec.getLsbD_extractLsb', hlow _ (by omega)]

/-- Settles O33: in every form of extension the low bits of the register are what `MemRead` answers. -/
theorem loadOctetCompletes : Obligations.LoadOctetCompletes := by
  intro o s hwf hp ha
  have hfits : 8 * o.size.octets ≤ o.dst.width := of_decide_eq_true hwf
  obtain ⟨v, u, hread, hu, hholds⟩ := s.memRead_of_aligned ha
  have heffect : loadOctetEffect o s = ⟨u.fill o.dst (8 * o.size.octets) v o.ext, .next⟩ := by
    rw [loadOctetEffect, hread]
  obtain ⟨honly, hrest, htrace, hadv⟩ := load_conclude hu o.dst
    (extendOver o.ext (8 * o.size.octets) v (u.readReg o.dst)) (loadOctetFlow o)
  refine ⟨_, heffect ▸ exec_loadOctet_allowed hp, ⟨fun hb => holdsUnit_of_lowBits (hholds hb) fun i hi => ?_, htrace⟩, honly,
    hrest, hadv⟩
  rw [State.conclude_next_readReg]
  exact getLsbD_readReg_fill u o.dst _ v o.ext hfits hi

/-! ### Stores -/

theorem State.holdsUnit_store (s : State) {a : Nat} (hb : s.isBacked (a / 16) = true) (n : Nat) (v : Word) :
    HoldsUnit (s.store a n v.toNat) a n v := by
  intro i hi
  rw [s.octetAt_store, if_pos ⟨hb, by omega, by omega⟩, Nat.add_sub_cancel_left, Memory.octet_of_toNat]

/-- A store writes its unit and no other octet, and no octet at all where the location is unbacked (R84). -/
theorem State.onlyOctets_store (s : State) (a n v : Nat) : OnlyOctets (s.isBacked (a / 16)) a n s (s.store a n v) := by
  refine ⟨fun b hb => ?_, s.store_backing a n v⟩
  rw [s.octetAt_store]
  rcases hb with hb | hb
  · rw [if_neg fun h => absurd (hb.symm.trans h.1) Bool.false_ne_true]
  · rw [if_neg (by omega)]

theorem holdsUnit_of_sameMemory {u t : State} {a n : Nat} {v : Word} (h : SameMemory u t) (hu : HoldsUnit u a n v) :
    HoldsUnit t a n v := fun i hi => (h.1 _).trans (hu i hi)

theorem onlyOctets_of_sameMemory {s u t : State} {stored : Bool} {a n : Nat} (h : SameMemory u t)
    (hu : OnlyOctets stored a n s u) : OnlyOctets stored a n s t :=
  ⟨fun b hb => (h.1 b).trans (hu.1 b hb), h.2.1.trans hu.2⟩

/-- The end of a step whose instruction stored a unit: what O32 and O34 say of a location in either scheme. -/
theorem store_conclude (s : State) (a n : Nat) (v : Word) (w : Flow) :
    ∃ t, s.conclude w ⟨s.store a n v.toNat, .next⟩ = t ∧
      ((s.isBacked (a / 16) = true → HoldsUnit t a n v ∧ t.trace = ⟨.self, .write (a / 16)⟩ :: s.trace) ∧
        (s.isBacked (a / 16) = false → t.trace = s.trace) ∧ OnlyOctets (s.isBacked (a / 16)) a n s t) ∧
      SameRegisters s t ∧ SamePrivileged s t ∧ SameOutside s t ∧ Advanced s t := by
  obtain ⟨hends, hregs, hadv⟩ := access_conclude (s.accessed_store a n v.toNat) w
  refine ⟨_, rfl, ⟨fun hb => ⟨?_, ?_⟩, fun hb => ?_, ?_⟩, hregs, hends.privileged, hends.outside, hadv⟩
  · exact holdsUnit_of_sameMemory hends.memory (s.holdsUnit_store hb n v)
  · exact hends.trace.trans (store_trace hb)
  · exact hends.trace.trans (congrArg State.trace (s.store_unbacked hb))
  · exact onlyOctets_of_sameMemory hends.memory (s.onlyOctets_store a n v.toNat)

/-- Settles O32: the instruction is a store of sixteen octets from the first of the word on. -/
theorem storeWordCompletes : Obligations.StoreWordCompletes := by
  intro o s hp
  obtain ⟨t, ht, hstore, hrest⟩ :=
    store_conclude s (16 * s.wordLocation (s.address o.addr)) 16 (s.readReg o.src.toReg) (storeWordFlow o)
  rw [Nat.mul_div_cancel_left _ (by decide)] at hstore
  exact ⟨t, ht ▸ exec_storeWord_allowed hp, hstore, hrest⟩

theorem storeOctetEffect_aligned {o : StoreOctet} {s : State} (h : s.octetLocation (s.address o.addr) % o.size.octets = 0) :
    storeOctetEffect o s =
      ⟨s.store (s.octetLocation (s.address o.addr)) o.size.octets (s.readReg o.src).toNat, .next⟩ := by
  rw [storeOctetEffect, s.memWrite_aligned h]

/-- Settles O34: the instruction is a store of the unit. -/
theorem storeOctetCompletes : Obligations.StoreOctetCompletes := by
  intro o s _ hp ha
  obtain ⟨t, ht, hstore⟩ :=
    store_conclude s (s.octetLocation (s.address o.addr)) o.size.octets (s.readReg o.src) (storeOctetFlow o)
  have hruns := exec_storeOctet_allowed hp
  rw [storeOctetEffect_aligned ha, ht] at hruns
  exact ⟨t, hruns, hstore⟩

end Sys2Proof.Machine
end

section
/-! PROOFS. MEMORY BARRIER and its two sets (O36). -/

namespace Sys2Proof.Machine

open Sys2Proof

namespace State

variable {s t : State} {m j : Nat} {sel : BarrierSel} {who : Initiator}

/-- Set P of a barrier: of the accesses recorded before it those that its selector orders before it (R103, R258). -/
theorem mem_barrierBefore (hm : s.event? m = some ⟨who, .barrier sel⟩) (i : Nat) :
    i ∈ s.barrierBefore m ↔
      i < m ∧ ∃ e, s.event? i = some e ∧ isAccess e.event = true ∧ orderedBefore sel e.event = true := by
  simp only [barrierBefore, hm, List.mem_filter, List.mem_range]
  cases s.event? i <;> simp

/-- Set S of a barrier: of the accesses recorded after it those of its user that its selector orders after it, and those of others that
are ordered after it (R103, R258). -/
theorem mem_barrierAfter (hm : s.event? m = some ⟨who, .barrier sel⟩) {e : Noted} (hj : s.event? j = some e) :
    j ∈ s.barrierAfter m ↔
      m < j ∧ isAccess e.event = true ∧
        if e.initiator = who then orderedAfter sel e.event = true else j ∈ s.orderedAfterEvent m := by
  have hlt := s.event?_lt hj
  by_cases hwho : e.initiator = who <;>
    simp [barrierAfter, hm, hj, hlt, hwho, and_assoc]

/-- A chain of orderings goes forwards in the record. -/
theorem lt_of_mem_orderedAfterEvent (h : j ∈ s.orderedAfterEvent m) : m < j := by
  have hchain := (s.mem_orderedAfterEvent m j).mp h
  clear h
  induction hchain with
  | single h => exact (s.lt_of_precedes h).1
  | tail _ h ih => exact ih.trans (s.lt_of_precedes h).1

/-- What one step of a chain is: an ordering of one initiator, a serialization, or membership in a barrier's set P (R103). -/
theorem precedes_iff {i k : Nat} :
    s.precedes i k = true ↔ s.enforced i k = true ∨ s.serialized i k = true ∨ i ∈ s.barrierBefore k := by
  simp only [precedes, Bool.or_eq_true, List.contains_iff_mem, or_assoc]

theorem mem_orderedAfterEvent_iff :
    j ∈ s.orderedAfterEvent m ↔
      Relation.TransGen (fun i k => s.enforced i k = true ∨ s.serialized i k = true ∨ i ∈ s.barrierBefore k) m j := by
  simp only [s.mem_orderedAfterEvent, precedes_iff]

/-- Two writes to one location are serialized as they are recorded, and no other events are (R104). -/
theorem serialized_iff {i : Nat} {d e : Noted} (hi : s.event? i = some d) (hj : s.event? j = some e) :
    s.serialized i j = true ↔ i < j ∧ ∃ w, d.event = .write w ∧ e.event = .write w := by
  unfold serialized
  rw [hi, hj]
  split
  · next a b hd he =>
    cases hd
    cases he
    simp [eq_comm (a := b)]
  · next hnone =>
    refine iff_of_false Bool.false_ne_true ?_
    rintro ⟨_, w, hd, he⟩
    exact hnone d.initiator w e.initiator w (by rw [← hd]) (by rw [← he])

/-- Nothing is recorded after the event recorded last. -/
theorem barrierAfter_last (ht : t.trace.length = m + 1) : t.barrierAfter m = [] := by
  apply List.eq_nil_iff_forall_not_mem.mpr
  intro j hj
  have hlt := t.lt_of_mem_barrierAfter hj
  have hrange : j < t.trace.length := by
    unfold barrierAfter at hj
    split at hj
    · exact List.mem_range.mp (List.mem_filter.mp hj).1
    · cases hj
  omega

/-- Set P of a barrier just recorded: what its selector orders of the whole record before it. -/
theorem mem_barrierBefore_last (ht : t.trace = ⟨who, .barrier sel⟩ :: s.trace) (i : Nat) :
    i ∈ t.barrierBefore s.trace.length ↔
      ∃ e, s.event? i = some e ∧ isAccess e.event = true ∧ orderedBefore sel e.event = true := by
  rw [mem_barrierBefore ((s.event?_cons ht _).trans (if_pos rfl)), s.event?_cons ht]
  constructor
  · rintro ⟨hi, he⟩
    rwa [if_neg (Nat.ne_of_lt hi)] at he
  · rintro ⟨e, he, hrest⟩
    have hi := s.event?_lt he
    exact ⟨hi, e, (if_neg (Nat.ne_of_lt hi)).trans he, hrest⟩

end State

theorem exec_memoryBarrier_allowed {o : MemoryBarrier} {s : State} (hp : o.priv ≤ s.opl) :
    exec (.memoryBarrier o) s = .next (s.conclude {} ⟨s.note (.barrier o.sel), .next⟩) :=
  congrArg Host.Outcome.next (s.attempt_allowed _ (memoryBarrierEffect o) hp)

/-- Settles O36: the barrier is noted and nothing else is done; its number stays its own however the record grows, so that its sets are
read off the record. -/
theorem memoryBarrierCompletes : Obligations.MemoryBarrierCompletes := by
  intro o s hp m
  obtain ⟨hends, hregs, hadv⟩ := access_conclude (s := s) (u := s.note (.barrier o.sel)) rfl {}
  generalize ht : s.conclude {} ⟨s.note (.barrier o.sel), .next⟩ = t at hends hregs hadv
  have htrace : t.trace = ⟨.self, .barrier o.sel⟩ :: s.trace := hends.trace
  have hmem : SameMemory s t := hends.memory
  refine ⟨t, ht ▸ exec_memoryBarrier_allowed hp, htrace, State.mem_barrierBefore_last htrace,
    State.barrierAfter_last (congrArg List.length htrace), fun u later hu j e he => ?_, hregs,
    ⟨hmem, hends.privileged, hends.outside⟩, hadv⟩
  have hm : u.event? m = some ⟨.self, .barrier o.sel⟩ :=
    State.event?_of_suffix ⟨later, hu.symm⟩ ((s.event?_cons htrace m).trans (if_pos rfl))
  rw [State.mem_barrierAfter hm he]
  refine ⟨fun hself => ?_, fun hother => ?_, fun i d hd => State.serialized_iff hd he⟩
  · rw [if_pos hself]
  · rw [if_neg hother, ← State.mem_orderedAfterEvent_iff]
    exact ⟨And.right, fun h => ⟨State.lt_of_mem_orderedAfterEvent h.2, h⟩⟩

end Sys2Proof.Machine
end

section
/-! PROOFS. STORE ATOMIC (O37). -/

namespace Sys2Proof.Machine

open Sys2Proof

/-- A success stores the unit, having drawn the value that its conditions depend on, and is reported (R106, R259). -/
theorem storeAtomicEffect_succeeds {o : StoreAtomic} {s : State} (ha : atomicLocation o s % atomicOctets o = 0)
    (hb : s.isBacked (atomicLocation o s / 16) = true) (hh : atomicHolds o s = true) :
    ∃ u, storeAtomicEffect o s = u.deliverAny o.report true ∧ s.Accessed u ∧
      HoldsUnit u (atomicLocation o s) (atomicOctets o) (s.readReg o.src) ∧
      OnlyOctets true (atomicLocation o s) (atomicOctets o) s u ∧
      u.trace = ⟨.self, .write (atomicLocation o s / 16)⟩ :: s.trace := by
  have hdrawn : s.drawn.isBacked (atomicLocation o s / 16) = true := hb
  have honly := s.drawn.onlyOctets_store (atomicLocation o s) (atomicOctets o) (s.readReg o.src).toNat
  rw [hdrawn] at honly
  exact ⟨_, storeAtomicEffect_holds ha hb hh, s.drawn.accessed_store _ _ _, s.drawn.holdsUnit_store hdrawn _ _, honly,
    store_trace hdrawn⟩

/-- Where the location is unbacked, or the conditions do not hold, the effect is the report of a failure (R84, R106, R259). -/
theorem storeAtomicEffect_fails {o : StoreAtomic} {s : State} (ha : atomicLocation o s % atomicOctets o = 0)
    (h : (s.isBacked (atomicLocation o s / 16) && atomicHolds o s) = false) :
    ∃ u, storeAtomicEffect o s = u.deliverAny o.report false ∧ s.Accessed u ∧ SameMemory s u ∧ u.trace = s.trace := by
  cases hb : s.isBacked (atomicLocation o s / 16) with
  | false => exact ⟨s, by simp [storeAtomicEffect, aligned, ha, hb], rfl, ⟨fun _ => rfl, rfl, rfl⟩, rfl⟩
  | true =>
    rw [hb, Bool.true_and] at h
    exact ⟨s.drawn, by simp [storeAtomicEffect, aligned, ha, hb, h], rfl, ⟨fun _ => rfl, rfl, rfl⟩, rfl⟩

theorem report_wf_of_storeAtomic {o : StoreAtomic} (h : (Instr.storeAtomic o).wf = true) :
    ∀ q, o.report = some q → q.wf = true := by
  intro q hq
  obtain ⟨_, hreport⟩ := Bool.and_eq_true_iff.mp (h : o.wf = true)
  rwa [hq] at hreport

/-- Settles O37: a success is a store and its report; a failure is the report alone. -/
theorem storeAtomicCompletes : Obligations.StoreAtomicCompletes := by
  intro o s hwf hp ha
  refine ⟨_, exec_storeAtomic_allowed hp, ?_⟩
  have hreport := report_wf_of_storeAtomic hwf
  simp only
  cases hok : s.isBacked (atomicLocation o s / 16) && atomicHolds o s with
  | true =>
    obtain ⟨hb, hh⟩ := Bool.and_eq_true_iff.mp hok
    obtain ⟨u, heffect, haccessed, hholds, honly, htrace⟩ := storeAtomicEffect_succeeds ha hb hh
    obtain ⟨hends, hreported⟩ := access_deliverAny_conclude haccessed hreport true (storeAtomicFlow o)
    rw [heffect, if_pos rfl]
    exact ⟨⟨hreported, ⟨holdsUnit_of_sameMemory hends.memory hholds, hends.trace.trans htrace⟩,
      onlyOctets_of_sameMemory hends.memory honly⟩, hends.privileged, hends.outside⟩
  | false =>
    obtain ⟨u, heffect, haccessed, hmem, htrace⟩ := storeAtomicEffect_fails ha hok
    obtain ⟨hends, hreported⟩ := access_deliverAny_conclude haccessed hreport false (storeAtomicFlow o)
    obtain ⟨hoctets, hbacking, hstale⟩ := sameMemory_trans hmem hends.memory
    rw [heffect, if_neg Bool.false_ne_true]
    exact ⟨⟨hreported, ⟨hends.trace.trans htrace, hoctets, hbacking, hstale⟩, fun b _ => hoctets b, hbacking⟩, hends.privileged,
      hends.outside⟩

end Sys2Proof.Machine
end

section
/-! PROOFS. An instruction that writes outside registers and memory and goes on: what the end of its step leaves; control flow (O44) and
interrupts, taken within the processor (O45) or sent (O46). -/

namespace Sys2Proof.Machine

open Sys2Proof

/-! ### The end of a step, seen from what the instruction left -/

/-- From the state `u` that the instruction left, advancing moves the place in the program only. -/
theorem written_conclude (s u : State) (w : Flow) :
    ComputesOnly u (s.conclude w ⟨u, .next⟩) ∧ SameRegisters u (s.conclude w ⟨u, .next⟩) ∧
      Advanced u (s.conclude w ⟨u, .next⟩) := by
  obtain ⟨d, hd⟩ := s.conclude_goesOn_eq u w (e := ⟨u, .next⟩) (.inl rfl)
  have hidle := idle_conclude u w
  rw [hd]
  generalize u.conclude w ⟨u, .next⟩ = t at hidle ⊢
  exact hidle

/-- So does a transfer of control. -/
theorem written_conclude_transfer (s u : State) (w : Flow) (a : Word) :
    ComputesOnly u (s.conclude w ⟨u, .transfer a⟩) ∧ SameRegisters u (s.conclude w ⟨u, .transfer a⟩) ∧
      TransferredTo a u (s.conclude w ⟨u, .transfer a⟩) := by
  obtain ⟨d, hd⟩ := s.conclude_goesOn_eq u w (e := ⟨u, .transfer a⟩) (.inr ⟨a, rfl⟩)
  rw [hd]
  exact transfer_conclude u w a

/-! ### Control flow -/

theorem controlFlowEffect_taken {o : ControlFlow} {s : State} (h : s.holds o.cond = true) :
    controlFlowEffect o s = ⟨s, .transfer (s.address o.target)⟩ := if_pos h

theorem controlFlowEffect_notTaken {o : ControlFlow} {s : State} (h : ¬ s.holds o.cond = true) :
    controlFlowEffect o s = ⟨s, .next⟩ := if_neg h

theorem holds_zero_iff (s : State) (x : Operand) : s.holds (.zero x) = true ↔ s.value x = 0#128 := beq_iff_eq

theorem holds_nonzero_iff (s : State) (x : Operand) : s.holds (.nonzero x) = true ↔ s.value x ≠ 0#128 := bne_iff_ne

/-- Settles O44: taken or not, the instruction writes nothing, and its step ends in a transfer or in an advance. -/
theorem controlFlowCompletes : Obligations.ControlFlowCompletes := by
  refine ⟨fun o s hp => ⟨_, exec_controlFlow_allowed hp, ?_⟩, fun s x => ⟨rfl, holds_zero_iff s x, holds_nonzero_iff s x⟩⟩
  by_cases h : s.holds o.cond = true
  · obtain ⟨hcomputes, hregs, hto⟩ := transfer_conclude s (controlFlowFlow o) (s.address o.target)
    rw [if_pos h, controlFlowEffect_taken h]
    exact ⟨hto, hregs, hcomputes⟩
  · obtain ⟨hcomputes, hregs, hadv⟩ := idle_conclude s (controlFlowFlow o)
    rw [if_neg h, controlFlowEffect_notTaken h]
    exact ⟨hadv, hregs, hcomputes⟩

/-! ### An interrupt taken -/

theorem exec_internalInterrupt_allowed {o : InternalInterrupt} {s : State} (hp : o.priv ≤ s.opl) :
    exec (.internalInterrupt o) s = .next (s.conclude {} ⟨s, .internalInterrupt o.level⟩) :=
  congrArg Host.Outcome.next (s.attempt_allowed {} (internalInterruptEffect o) hp)

/-- An interrupt is entered after `Advance()` (D17), whatever dependences were recorded before. -/
theorem conclude_internalInterrupt (s : State) (w : Flow) (p : Nat) :
    ∃ d, s.conclude w ⟨s, .internalInterrupt p⟩ = (s.advance.setDepend d).interruptEntry p := by
  refine ⟨(s.track w s).depend, ?_⟩
  change (s.track w s).advance.interruptEntry p = _
  rw [s.track_eq, State.advance_setDepend, State.setDepend_depend]

/-- Interrupt entry resumes where the machine stands (R331). -/
theorem tookInterrupt_interruptEntry (s : State) (d : Dependences) (p : Nat) :
    TookInterrupt p s.ipmar s.iidx s ((s.setDepend d).interruptEntry p) := by
  have hsave : ∀ q, ((s.setDepend d).interruptEntry p).isaveAt q = if q = p then ⟨s.opl, s.ipmar, s.iidx⟩ else s.isaveAt q :=
    State.isaveAt_interruptEntry _ p
  refine ⟨(hsave p).trans (if_pos rfl), fun q hq => (hsave q).trans (if_neg hq), ?_⟩
  rw [State.interruptEntry_eq]
  exact ⟨rfl, rfl, ⟨rfl, rfl, rfl⟩, sameRegisters_of_eq rfl rfl rfl, ⟨fun _ => rfl, rfl, rfl⟩, ⟨rfl, rfl⟩, rfl,
    fun _ => rfl, fun _ => rfl, fun _ => rfl⟩

/-- Taken right after `Advance()`, an interrupt is taken from the state before, apart from its resume point. -/
theorem tookInterrupt_of_advance {p : Nat} {a : Word} {k : Fin 4} {s t : State} (h : TookInterrupt p a k s.advance t) :
    TookInterrupt p a k s t := by
  rw [s.advance_eq] at h
  exact h

/-- Neither `Advance()` nor interrupt entry looks at the external interrupts pending. -/
theorem xpend_advance_interruptEntry (s : State) (d : Dependences) (p : Nat) :
    ((s.advance.setDepend d).interruptEntry p).xpend = s.xpend := by
  rw [State.interruptEntry_eq, State.setDepend_xpend, s.advance_eq]

/-- Settles O45: the step advances and then enters the handler; XIE is not looked at. -/
theorem internalInterruptCompletes : Obligations.InternalInterruptCompletes := by
  intro o s hp
  obtain ⟨d, hd⟩ := conclude_internalInterrupt s {} o.level
  refine ⟨_, exec_internalInterrupt_allowed hp, advanced_advance s, ?_⟩
  rw [hd]
  exact ⟨tookInterrupt_of_advance (tookInterrupt_interruptEntry s.advance d o.level), xpend_advance_interruptEntry s d o.level⟩

/-! ### An interrupt sent -/

theorem exec_sendInterrupt_allowed {o : SendInterrupt} {s : State} (hp : s.impl.plMax ≤ s.opl) :
    exec (.sendInterrupt o) s = .next (s.conclude {} ⟨s.send o.kind (s.value o.address), .next⟩) :=
  congrArg Host.Outcome.next (s.attempt_allowed {} (sendInterruptEffect o) hp)

/-- Settles O46: the instruction writes the outbox, and the end of its step only advances. -/
theorem sendInterruptCompletes : Obligations.SendInterruptCompletes := by
  intro o s hp
  obtain ⟨⟨⟨hmem, hpriv, houtbox, himpl⟩, htrace⟩, hregs, hadv⟩ := written_conclude s (s.send o.kind (s.value o.address)) {}
  exact ⟨_, exec_sendInterrupt_allowed hp, houtbox, hregs, hmem, hpriv, himpl, htrace, hadv⟩

end Sys2Proof.Machine
end

section
/-! PROOFS. The operations on privileged state that go on: handlers registered (O47), save sets read (O48) and written (O49), XIE and OPL
written (O51). -/

namespace Sys2Proof.Machine

open Sys2Proof

/-! ### One operation carried out -/

/-- What stays of everything but the handlers and save sets where an instruction writes those and advances. -/
def OnlyLevelStateMay (s t : State) : Prop :=
  t.opl = s.opl ∧ t.xie = s.xie ∧ t.xpend = s.xpend ∧ t.trace = s.trace ∧
  SameRegisters s t ∧ SameMemory s t ∧ SameOutside s t ∧ Advanced s t

section

variable {s : State} {op : PrivOp}

/-- An operation that leaves `u` and advances. -/
theorem exec_privilegedWrite {u : State} (hp : privLevel op ≤ s.opl) (heffect : privilegedEffect ⟨op⟩ s = ⟨u, .next⟩) :
    ∃ t, exec (.privilegedState ⟨op⟩) s = .next t ∧ SameLevelState u t ∧ OnlyLevelStateMay u t := by
  have hruns := exec_privilegedState_allowed hp
  rw [heffect] at hruns
  obtain ⟨⟨⟨hmem, ⟨hopl, hxie, hlevels, hxpend⟩, hout⟩, htrace⟩, hregs, hadv⟩ := written_conclude s u (privilegedFlow ⟨op⟩)
  exact ⟨_, hruns, hlevels, hopl, hxie, hxpend, htrace, hregs, hmem, hout, hadv⟩

/-- An operation that reads privileged state into a register. -/
theorem exec_privilegedRead {dst : WideReg} {v : Word} (hp : privLevel op ≤ s.opl)
    (heffect : privilegedEffect ⟨op⟩ s = ⟨s.writeReg dst.toReg v, .next⟩) :
    ∃ t, exec (.privilegedState ⟨op⟩) s = .next t ∧ t.readReg dst.toReg = v ∧ OnlyRegister dst.toReg s t ∧
      ComputesOnly s t ∧ Advanced s t := by
  have hruns := exec_privilegedState_allowed hp
  rw [heffect] at hruns
  exact ⟨_, hruns, (s.conclude_next_readReg _ _ _).trans (s.readReg_writeReg_wide dst v), writeReg_conclude s dst.toReg v _⟩

end

/-- Settles O47: the map of handlers that the operation writes has a new entry at the level, and the end of the step writes none. -/
theorem handlerRegistrationCompletes : Obligations.HandlerRegistrationCompletes := by
  refine fun p src s hp => ⟨?_, ?_⟩
  · obtain ⟨t, ht, ⟨heha, hiha, hesave, hisave⟩, hrest⟩ := exec_privilegedWrite (op := .setEha p src) hp rfl
    exact ⟨t, ht, fun q => (heha q).trans (s.ehaAt_setEha p q _), hiha, hesave, hisave, hrest⟩
  · obtain ⟨t, ht, ⟨heha, hiha, hesave, hisave⟩, hrest⟩ := exec_privilegedWrite (op := .setIha p src) hp rfl
    exact ⟨t, ht, fun q => (hiha q).trans (s.ihaAt_setIha p q _), heha, hesave, hisave, hrest⟩

/-- Settles O48: the register takes the field's value as the model's zero extension gives it. -/
theorem saveSetReadsComplete : Obligations.SaveSetReadsComplete := by
  refine fun p dst s hp => ⟨fun f => ?_, fun f => ?_⟩
  · obtain ⟨t, ht, hread, hrest⟩ := exec_privilegedRead (op := .readEsave p f dst) hp rfl
    refine ⟨t, ht, hread.trans ?_, hrest⟩
    rcases f with (_ | _ | _) | _ <;> rfl
  · obtain ⟨t, ht, hread, hrest⟩ := exec_privilegedRead (op := .readIsave p f dst) hp rfl
    refine ⟨t, ht, hread.trans ?_, hrest⟩
    cases f <;> rfl

/-! ### A save set written -/

/-- A save set of exceptions after a write of one field. -/
def excSaveWritten (s : State) (r : ExcSave) (v : Word) : SaveField → ExcSave
  | .resume .opl => { r with opl := savedLevel s v }
  | .resume .ipmar => { r with ipmar := v }
  | .resume .iidx => { r with iidx := savedIndex v }
  | .ceid => { r with ceid := v.toNat }

/-- A save set of interrupts after a write of one field. -/
def resumeWritten (s : State) (r : ResumePoint) (v : Word) : ResumeField → ResumePoint
  | .opl => { r with opl := savedLevel s v }
  | .ipmar => { r with ipmar := v }
  | .iidx => { r with iidx := savedIndex v }

theorem afterSavedLevel_setFree (s : State) (v : Word) : ∃ n, afterSavedLevel s v = s.setFree n := by
  rcases afterSavedLevel_eq s v with h | h
  · exact ⟨s.free, h⟩
  · exact ⟨s.free + 1, h⟩

/-- Everything a write of a field of ESAVE[p] does: the set is replaced, and free values may have been drawn. -/
theorem writeExcSave_eq (s : State) (p : Nat) (f : SaveField) (v : Word) :
    ∃ n, writeExcSave s p f v = (s.setFree n).setEsave p (excSaveWritten s (s.esaveAt p) v f) := by
  rcases f with (_ | _ | _) | _
  · obtain ⟨n, hn⟩ := afterSavedLevel_setFree s v
    exact ⟨n, by rw [writeExcSave, hn]; rfl⟩
  all_goals exact ⟨s.free, rfl⟩

/-- Everything a write of a field of ISAVE[p] does. -/
theorem writeResume_eq (s : State) (p : Nat) (f : ResumeField) (v : Word) :
    ∃ n, writeResume s p f v = (s.setFree n).setIsave p (resumeWritten s (s.isaveAt p) v f) := by
  cases f with
  | opl =>
    obtain ⟨n, hn⟩ := afterSavedLevel_setFree s v
    exact ⟨n, by rw [writeResume, hn]; rfl⟩
  | ipmar | iidx => exact ⟨s.free, rfl⟩

/-- A level of the implementation is saved as it is, and some level of the implementation is saved always (R42; log 21). -/
theorem savedLevel_spec (s : State) (v : Word) :
    (v.toNat ≤ s.impl.plMax → savedLevel s v = v.toNat) ∧ savedLevel s v ≤ s.impl.plMax :=
  ⟨fun h => if_pos h, savedLevel_le s v⟩

/-- Of the save set of exceptions one field is new. -/
theorem excSaveWritten_fields (s : State) (r : ExcSave) (v : Word) (f : SaveField) :
    (excSaveWritten s r v f).ipmar = (if f = .resume .ipmar then v else r.ipmar) ∧
    (excSaveWritten s r v f).iidx.val = (if f = .resume .iidx then v.toNat % 4 else r.iidx.val) ∧
    (excSaveWritten s r v f).ceid = (if f = .ceid then v.toNat else r.ceid) ∧
    (if f = .resume .opl then
      (v.toNat ≤ s.impl.plMax → (excSaveWritten s r v f).opl = v.toNat) ∧ (excSaveWritten s r v f).opl ≤ s.impl.plMax
     else (excSaveWritten s r v f).opl = r.opl) := by
  rcases f with (_ | _ | _) | _
  · exact ⟨rfl, rfl, rfl, savedLevel_spec s v⟩
  all_goals exact ⟨rfl, rfl, rfl, rfl⟩

/-- Of the save set of interrupts one field is new. -/
theorem resumeWritten_fields (s : State) (r : ResumePoint) (v : Word) (f : ResumeField) :
    (resumeWritten s r v f).ipmar = (if f = .ipmar then v else r.ipmar) ∧
    (resumeWritten s r v f).iidx.val = (if f = .iidx then v.toNat % 4 else r.iidx.val) ∧
    (if f = .opl then
      (v.toNat ≤ s.impl.plMax → (resumeWritten s r v f).opl = v.toNat) ∧ (resumeWritten s r v f).opl ≤ s.impl.plMax
     else (resumeWritten s r v f).opl = r.opl) := by
  cases f with
  | opl => exact ⟨rfl, rfl, savedLevel_spec s v⟩
  | ipmar | iidx => exact ⟨rfl, rfl, rfl⟩

/-- Settles O49: the operation replaces one save set by one with a new field, and the end of the step writes none. -/
theorem saveSetWritesComplete : Obligations.SaveSetWritesComplete := by
  refine fun p src s hp => ⟨fun f => ?_, fun f => ?_⟩
  · obtain ⟨n, hwrite⟩ := writeExcSave_eq s p f (s.value src)
    obtain ⟨t, ht, ⟨heha, hiha, hesave, hisave⟩, hrest⟩ :=
      exec_privilegedWrite (op := .writeEsave p f src) hp (congrArg (Effect.mk · .next) hwrite)
    have hset : ∀ q, t.esaveAt q = if q = p then excSaveWritten s (s.esaveAt p) (s.value src) f else s.esaveAt q :=
      fun q => (hesave q).trans (State.esaveAt_setEsave ..)
    obtain ⟨hipmar, hiidx, hceid, hopl⟩ := excSaveWritten_fields s (s.esaveAt p) (s.value src) f
    refine ⟨t, ht, ?_⟩
    rw [(hset p).trans (if_pos rfl)]
    exact ⟨hipmar, hiidx, hceid, hopl, fun q hq => (hset q).trans (if_neg hq), hisave, heha, hiha, hrest⟩
  · obtain ⟨n, hwrite⟩ := writeResume_eq s p f (s.value src)
    obtain ⟨t, ht, ⟨heha, hiha, hesave, hisave⟩, hrest⟩ :=
      exec_privilegedWrite (op := .writeIsave p f src) hp (congrArg (Effect.mk · .next) hwrite)
    have hset : ∀ q, t.isaveAt q = if q = p then resumeWritten s (s.isaveAt p) (s.value src) f else s.isaveAt q :=
      fun q => (hisave q).trans (State.isaveAt_setIsave ..)
    obtain ⟨hipmar, hiidx, hopl⟩ := resumeWritten_fields s (s.isaveAt p) (s.value src) f
    refine ⟨t, ht, ?_⟩
    rw [(hset p).trans (if_pos rfl)]
    exact ⟨hipmar, hiidx, hopl, fun q hq => (hset q).trans (if_neg hq), hesave, heha, hiha, hrest⟩

/-! ### XIE and OPL -/

/-- Settles O51: each operation leaves one field new; the step then advances, or goes to the target. -/
theorem xieAndOplWritesComplete : Obligations.XieAndOplWritesComplete := by
  refine fun s hs => ⟨fun on => ?_, fun q target hq => ?_⟩
  · obtain ⟨t, ht, hlevels, hopl, hxie, hxpend, htrace, hregs, hmem, hout, hadv⟩ :=
      exec_privilegedWrite (op := .setXie on) hs rfl
    exact ⟨t, ht, hxie, hopl, hxpend, htrace, hlevels, hregs, hmem, hout, hadv⟩
  · have hlevel : privLevel (.lowerOpl q target) ≤ s.opl := Nat.max_le.mpr ⟨hs, hq⟩
    cases target with
    | none =>
      obtain ⟨t, ht, hlevels, hopl, hxie, hxpend, htrace, hregs, hmem, hout, hadv⟩ := exec_privilegedWrite hlevel rfl
      exact ⟨t, ht, hopl, hxie, hxpend, htrace, hlevels, hregs, hmem, hout, hadv⟩
    | some a =>
      obtain ⟨⟨⟨hmem, ⟨hopl, hxie, hlevels, hxpend⟩, hout⟩, htrace⟩, hregs, hto⟩ :=
        written_conclude_transfer s (s.setOpl q) (privilegedFlow ⟨.lowerOpl q (some a)⟩) (s.address a)
      exact ⟨_, exec_privilegedState_allowed hlevel, hopl, hxie, hxpend, htrace, hlevels, hregs, hmem, hout, hto⟩

end Sys2Proof.Machine
end

section
/-! PROOFS. What a step from OPL 0 can do to the privileged state: enter a registered handler (O59), and besides that nothing (O60). -/

namespace Sys2Proof.Machine

open Sys2Proof

/-! ### What software at OPL 0 leaves alone -/

/-- From `s` to `t` the processor has kept its privilege and all that privilege rises by: OPL, XIE and the handlers registered (R38 to R41),
and the implementation, which says how wide an address is. -/
structure State.PrivilegeKept (s t : State) : Prop where
  opl : t.opl = s.opl
  xie : t.xie = s.xie
  eha : t.eha = s.eha
  iha : t.iha = s.iha
  impl : t.impl = s.impl

namespace State

variable {s t u : State}

theorem PrivilegeKept.refl (s : State) : s.PrivilegeKept s := ⟨rfl, rfl, rfl, rfl, rfl⟩

theorem PrivilegeKept.trans (h : s.PrivilegeKept t) (k : t.PrivilegeKept u) : s.PrivilegeKept u :=
  ⟨k.opl.trans h.opl, k.xie.trans h.xie, k.eha.trans h.eha, k.iha.trans h.iha, k.impl.trans h.impl⟩

theorem PrivilegeKept.ehaAt (h : s.PrivilegeKept t) (p : Nat) : t.ehaAt p = s.ehaAt p := by
  rw [State.ehaAt, h.eha, State.ehaAt]

theorem PrivilegeKept.ihaAt (h : s.PrivilegeKept t) (p : Nat) : t.ihaAt p = s.ihaAt p := by
  rw [State.ihaAt, h.iha, State.ihaAt]

theorem PrivilegeKept.setDepend (h : s.PrivilegeKept t) (d : Dependences) : s.PrivilegeKept (t.setDepend d) :=
  h.trans ⟨rfl, rfl, rfl, rfl, rfl⟩

theorem PrivilegeKept.track (h : s.PrivilegeKept t) (w : Flow) : s.PrivilegeKept (s.track w t) := by
  rw [track_eq]
  exact h.setDepend _

theorem PrivilegeKept.advance (h : s.PrivilegeKept t) : s.PrivilegeKept t.advance := by
  rw [advance_eq]
  exact h.trans ⟨rfl, rfl, rfl, rfl, rfl⟩

theorem privilegeKept_abandon (s : State) (w : Flow) (t : State) : s.PrivilegeKept (s.abandon w t) := by
  rw [abandon_eq]
  exact ⟨rfl, rfl, rfl, rfl, rfl⟩

theorem Computed.privilegeKept (h : s.Computed t) : s.PrivilegeKept t := by
  rw [h]
  exact ⟨rfl, rfl, rfl, rfl, rfl⟩

theorem Accessed.privilegeKept (h : s.Accessed t) : s.PrivilegeKept t := by
  rw [h]
  exact ⟨rfl, rfl, rfl, rfl, rfl⟩

/-! ### Registers and memory -/

theorem privilegeKept_writeReg (s : State) (r : Reg) (v : Word) : s.PrivilegeKept (s.writeReg r v) :=
  (s.computed_writeReg r v).privilegeKept

theorem privilegeKept_writeCarry (s : State) (d : CarryDest) (v : Word) (c : Bool) : s.PrivilegeKept (s.writeCarry d v c) := by
  cases d with
  | gpr g => exact (s.computed_carryWriteGpr g _).privilegeKept
  | sgpr i => exact (s.computed_carryWriteSgpr i _).privilegeKept

theorem privilegeKept_memReadW (s : State) (wa : Word) : s.PrivilegeKept (s.memReadW wa).2 := by
  rcases s.readAt_memReadW wa with h | h <;> rw [h] <;> exact ⟨rfl, rfl, rfl, rfl, rfl⟩

theorem privilegeKept_memRead {oa v : Word} {size : UnitSize} (h : s.memRead oa size = some (v, t)) : s.PrivilegeKept t := by
  simp only [memRead] at h
  split at h
  · split at h <;> cases h <;> exact ⟨rfl, rfl, rfl, rfl, rfl⟩
  · cases h

theorem privilegeKept_store (s : State) (a n v : Nat) : s.PrivilegeKept (s.store a n v) :=
  (s.accessed_store a n v).privilegeKept

theorem privilegeKept_memWrite {oa v : Word} {size : UnitSize} (h : s.memWrite oa size v = some t) : s.PrivilegeKept t := by
  simp only [memWrite] at h
  split at h
  · cases h; exact s.privilegeKept_store _ _ _
  · cases h

/-- A report writes a register or a CR, or says where to go on. -/
theorem privilegeKept_deliver (s : State) (r : Report) (ok : Bool) : s.PrivilegeKept (s.deliver r ok).state := by
  cases r with
  | register | bit | implementation => exact s.privilegeKept_writeReg _ _
  | carry i => exact ⟨rfl, rfl, rfl, rfl, rfl⟩
  | transferIf sense target =>
    simp only [deliver]
    split <;> exact .refl s

theorem privilegeKept_deliverAny (s : State) (r : Option Report) (ok : Bool) : s.PrivilegeKept (s.deliverAny r ok).state := by
  cases r with
  | none => exact .refl s
  | some r => exact s.privilegeKept_deliver r ok

end State

/-! ### The classes that no level is asked of -/

section

variable (s : State)

theorem privilegeKept_integerCarry (o : IntegerCarry) : s.PrivilegeKept (integerCarryEffect o s).state := by
  unfold integerCarryEffect
  split
  · exact (s.computed_carryWriteGpr _ _).privilegeKept
  · exact (s.computed_carryWriteSgpr _ _).privilegeKept

theorem privilegeKept_elementExtract (o : ElementExtract) : s.PrivilegeKept (elementExtractEffect o s).state := by
  unfold elementExtractEffect
  split
  · exact s.privilegeKept_writeReg _ _
  · exact .refl s
  · exact s.privilegeKept_writeReg _ _

theorem privilegeKept_elementDeposit (o : ElementDeposit) : s.PrivilegeKept (elementDepositEffect o s).state := by
  unfold elementDepositEffect
  split
  · exact s.privilegeKept_writeReg _ _
  · exact .refl s
  · exact s.privilegeKept_writeReg _ _

theorem privilegeKept_loadWord (o : LoadWord) : s.PrivilegeKept (loadWordEffect o s).state :=
  (s.privilegeKept_memReadW _).trans (State.privilegeKept_writeReg _ _ _)

theorem privilegeKept_loadOctet (o : LoadOctet) : s.PrivilegeKept (loadOctetEffect o s).state := by
  unfold loadOctetEffect
  split
  · next h => exact (State.privilegeKept_memRead h).trans (State.privilegeKept_writeReg _ _ _)
  · exact .refl s

theorem privilegeKept_storeOctet (o : StoreOctet) : s.PrivilegeKept (storeOctetEffect o s).state := by
  unfold storeOctetEffect
  split
  · next h => exact State.privilegeKept_memWrite h
  · exact .refl s

theorem privilegeKept_storeAtomic (o : StoreAtomic) : s.PrivilegeKept (storeAtomicEffect o s).state := by
  have hdrawn : s.PrivilegeKept s.drawn := ⟨rfl, rfl, rfl, rfl, rfl⟩
  unfold storeAtomicEffect
  simp only
  split
  · exact .refl s
  · split
    · exact s.privilegeKept_deliverAny _ _
    · split
      · exact (hdrawn.trans (State.privilegeKept_store _ _ _ _)).trans (State.privilegeKept_deliverAny _ _ _)
      · exact hdrawn.trans (State.privilegeKept_deliverAny _ _ _)

theorem privilegeKept_controlFlow (o : ControlFlow) : s.PrivilegeKept (controlFlowEffect o s).state := by
  unfold controlFlowEffect
  split <;> exact .refl s

end

/-! ### Levels from 1 for all that touches privileged state -/

theorem one_le_privLevel (o : PrivOp) : 1 ≤ privLevel o := by
  cases o with
  | setXie | enforceCoherence => exact Nat.le_refl 1
  | _ => exact Nat.le_max_left 1 _

theorem one_le_privField_level (f : PrivField) : 1 ≤ f.level := by
  cases f with
  | xie | opl => exact Nat.le_refl 1
  | _ => exact Nat.le_max_left 1 _

/-- A composite instruction asks for no less than each of its actions does (R275). -/
theorem action_level_le_of_foldl {n b k : Nat} {l : List GuardedAction}
    (h : l.foldl (fun m a => max m (a.action.level n)) k ≤ b) : k ≤ b ∧ ∀ a ∈ l, a.action.level n ≤ b := by
  induction l generalizing k with
  | nil => exact ⟨h, fun _ ha => nomatch ha⟩
  | cons a l ih =>
    obtain ⟨hk, hl⟩ := ih h
    obtain ⟨hk, ha⟩ := Nat.max_le.mp hk
    exact ⟨hk, List.forall_mem_cons.mpr ⟨ha, hl⟩⟩

/-! ### Composite instructions -/

/-- An action of level 0 touches no privileged state: those that write it, or return, are of level 1 at least (R301, R333). -/
theorem privilegeKept_runAction {a : Action} (g : List Nat) {r : Running} {n : Nat} (ha : a.level n = 0) :
    r.state.PrivilegeKept (runAction a g r).state := by
  cases a with
  | load size addr =>
    simp only [runAction]
    split
    · exact State.privilegeKept_memRead ‹_›
    · exact .refl _
  | loadWord addr => exact State.privilegeKept_memReadW _ _
  | store size addr value =>
    simp only [runAction]
    split
    · exact (State.privilegeKept_memWrite ‹_›).setDepend _
    · exact .refl _
  | storeWord addr value => exact (State.privilegeKept_store _ _ _ _).setDepend _
  | write dst value => exact (State.privilegeKept_writeReg _ _ _).setDepend _
  | writeCarry dst value carry =>
    exact (((State.privilegeKept_writeCarry _ _ _ _).setDepend _).setDepend _).setDepend _
  | writePriv f value => exact absurd ha (Nat.ne_of_gt (one_le_privField_level f))
  | exceptionReturn p | interruptReturn p => exact absurd ha (Nat.ne_of_gt (Nat.le_max_left 1 p))
  | compute | barrier | transfer | internalInterrupt | unalignedSelect | readPriv | enforceCoherence | sendInterrupt =>
    exact ⟨rfl, rfl, rfl, rfl, rfl⟩

theorem privilegeKept_skipAction (a : Action) (g : List Nat) (r : Running) :
    r.state.PrivilegeKept (skipAction a g r).state := by
  rw [skipAction_state]
  exact (State.PrivilegeKept.refl _).setDepend _

theorem privilegeKept_runGuarded {a : GuardedAction} {n : Nat} (ha : a.action.level n = 0) (r : Running) :
    r.state.PrivilegeKept (runGuarded a r).state := by
  unfold runGuarded
  split
  · split
    · exact privilegeKept_runAction _ ha
    · exact privilegeKept_skipAction _ _ _
  · exact privilegeKept_runAction _ ha

theorem privilegeKept_runActions {l : List GuardedAction} {n : Nat} (hl : ∀ a ∈ l, a.action.level n = 0) (r : Running) :
    r.state.PrivilegeKept (runActions l r).state := by
  induction l generalizing r with
  | nil => exact .refl _
  | cons a l ih =>
    obtain ⟨ha, hl⟩ := List.forall_mem_cons.mp hl
    unfold runActions
    split
    · exact .refl _
    · exact (privilegeKept_runGuarded ha r).trans (ih hl _)

/-- So a composite instruction that OPL 0 allows touches none. -/
theorem privilegeKept_composite {o : Composite} {n : Nat} (ho : o.level n ≤ 0) (s : State) :
    s.PrivilegeKept (compositeEffect o s).state := by
  obtain ⟨_, hactions⟩ := action_level_le_of_foldl ho
  have hruns := privilegeKept_runActions (fun a ha => Nat.le_zero.mp (hactions a ha))
    ⟨s, o.sources.map fun x => ⟨s.value x, s.depend.reads (operandPlaces x)⟩, [], .next⟩
  exact hruns.setDepend _

/-! ### The step from OPL 0 -/

/-- No instruction that OPL 0 allows touches privileged state (R301, R302). -/
theorem privilegeKept_isetExec {c : Impl} {op : Op} (h : isetPriv c op ≤ 0) (s : State) :
    s.PrivilegeKept (isetExec op s).state := by
  cases op with
  | aviObtain | vector | scalar => exact s.privilegeKept_writeReg _ _
  | aeQuery o => exact s.privilegeKept_deliver _ _
  | integerCarry o => exact privilegeKept_integerCarry s o
  | elementExtract o => exact privilegeKept_elementExtract s o
  | elementDeposit o => exact privilegeKept_elementDeposit s o
  | loadWordAddressed o => exact privilegeKept_loadWord s o
  | storeWordAddressed o => exact s.privilegeKept_store _ _ _
  | loadOctetAddressed o => exact privilegeKept_loadOctet s o
  | storeOctetAddressed o => exact privilegeKept_storeOctet s o
  | storeAtomic o => exact privilegeKept_storeAtomic s o
  | controlFlow o => exact privilegeKept_controlFlow s o
  | internalInterrupt | memoryBarrier | sendInterrupt | null => exact ⟨rfl, rfl, rfl, rfl, rfl⟩
  | privilegedState o => exact absurd (Nat.le_trans (one_le_privLevel o.op) h) (by decide)
  | composite o => exact privilegeKept_composite h s

/-- How a step may end that touches no privileged state itself: with it as it was, or in the entry to a handler from a state that has it
as it was. -/
inductive KeptOrEntered (s t : State) : Prop where
  | kept (h : s.PrivilegeKept t)
  | exception (u : State) (x : ExcId) (p : Nat) (hu : s.PrivilegeKept u) (ht : t = u.trapEntry x p)
  | interrupt (u : State) (p : Nat) (hu : s.PrivilegeKept u) (ht : t = u.interruptEntry p)

theorem KeptOrEntered.of_kept {s u t : State} (hu : s.PrivilegeKept u) (h : KeptOrEntered u t) : KeptOrEntered s t := by
  cases h with
  | kept h => exact .kept (hu.trans h)
  | exception v x p hv ht => exact .exception v x p (hu.trans hv) ht
  | interrupt v p hv ht => exact .interrupt v p (hu.trans hv) ht

/-- Step 9 adds to what the instruction wrote an entry to a handler at most. -/
theorem keptOrEntered_conclude {s : State} (w : Flow) {e : Effect} (he : s.PrivilegeKept e.state) :
    KeptOrEntered s (s.conclude w e) := by
  have htrack := he.track w
  rcases s.conclude_cases w e with ⟨_, h⟩ | ⟨a, _, h⟩ | ⟨x, p, _, h⟩ | ⟨p, _, h⟩ | ⟨_, h⟩
  · exact .kept (h ▸ htrack.advance)
  · exact .kept (h ▸ htrack.trans ⟨rfl, rfl, rfl, rfl, rfl⟩)
  · exact .exception _ x p (s.privilegeKept_abandon w e.state) h
  · exact .interrupt _ p htrack.advance h
  · exact .kept (h ▸ htrack)

theorem keptOrEntered_attempted {s t : State} (hs : s.opl = 0) (h : Attempted s t) : KeptOrEntered s t := by
  obtain ⟨e, _, _, rfl⟩ := h
  rcases s.attempt_cases (isetPriv s.impl e.op) (isetFlow e.op) (isetExec e.op) with ⟨_, h⟩ | ⟨hpriv, h⟩
  · exact .exception _ _ _ ((State.PrivilegeKept.refl s).setDepend _) h
  · rw [h]
    exact keptOrEntered_conclude _ (privilegeKept_isetExec (hs ▸ hpriv) s)

theorem keptOrEntered_concluded {s t : State} (hs : s.opl = 0) (h : Concluded s t) : KeptOrEntered s t := by
  rcases h with ⟨x, _, h⟩ | h
  · exact .exception s x (s.impl.levelOf s.opl x) (.refl s) h
  · exact keptOrEntered_attempted hs h

/-- Everything that a step from OPL 0 can do to privilege and to what it rises by. -/
theorem keptOrEntered_step {s t : State} (hs : s.opl = 0) (h : step s = .next t) : KeptOrEntered s t := by
  rcases step_cases h with ⟨k, p, _, _, ht⟩ | ⟨n, sh, hc⟩
  · refine .interrupt _ p ?_ ht
    exact ⟨rfl, rfl, rfl, rfl, rfl⟩
  · exact .of_kept (u := s.ready n sh) ⟨rfl, rfl, rfl, rfl, rfl⟩ (keptOrEntered_concluded hs hc)

/-! ### The statements -/

/-- Settles O59: of the ways a step can end, the two entries alone change OPL. -/
theorem privilegeRisesOnlyIntoHandlers : Obligations.PrivilegeRisesOnlyIntoHandlers := by
  intro s t hs hstep hrises
  cases keptOrEntered_step hs hstep with
  | kept h => exact absurd (h.opl.trans hs) hrises
  | exception u x p hu ht =>
    have hopl : u.opl = 0 := hu.opl.trans hs
    have hlevel : t.opl = p := by rw [ht, State.trapEntry_eq, hopl]; exact Nat.zero_max p
    rw [hlevel, ht, State.esaveAt_trapEntry, if_pos rfl, State.trapEntry_eq, hu.impl, hu.ehaAt]
    exact ⟨rfl, rfl, rfl, .inl ⟨rfl, hopl⟩⟩
  | interrupt u p hu ht =>
    have hopl : u.opl = 0 := hu.opl.trans hs
    have hlevel : t.opl = p := by rw [ht, State.interruptEntry_eq]
    rw [hlevel, ht, State.isaveAt_interruptEntry, if_pos rfl, State.interruptEntry_eq, hu.impl, hu.ihaAt]
    exact ⟨rfl, rfl, rfl, .inr ⟨rfl, hopl⟩⟩

/-- Settles O60: the two entries write no handler address, and they switch reception off. -/
theorem unprivilegedStepsKeepHandlers : Obligations.UnprivilegedStepsKeepHandlers := by
  intro s t hs hstep
  cases keptOrEntered_step hs hstep with
  | kept h => exact ⟨fun p => ⟨h.ehaAt p, h.ihaAt p⟩, h.xie.trans⟩
  | exception u x p hu ht =>
    rw [ht, State.trapEntry_eq]
    exact ⟨fun q => ⟨hu.ehaAt q, hu.ihaAt q⟩, fun _ => rfl⟩
  | interrupt u p hu ht =>
    rw [ht, State.interruptEntry_eq]
    exact ⟨fun q => ⟨hu.ehaAt q, hu.ihaAt q⟩, fun _ => rfl⟩

end Sys2Proof.Machine
end

section
/-! PROOFS. The privilege check (O19, O20) and the interrupt that step 0 takes (O8). -/

namespace Sys2Proof.Machine

open Sys2Proof

/-! ### The privilege check -/

theorem succ_le_insufficientAt (l : ExcLevels) (opl : Nat) : opl + 1 ≤ l.insufficientAt opl := by
  unfold ExcLevels.insufficientAt
  split
  · exact Nat.le_max_left _ _
  · exact Nat.le_refl _

/-- The level of an instruction that a legal implementation recognises is one of its levels (R163, R300). -/
theorem isetPriv_le_of_isetDecode {c : Impl} (hc : c.wf = true) {w : InstrWord} {op : Op} (h : isetDecode c w = some op) :
    isetPriv c op ≤ c.plMax := by
  obtain ⟨e, hlines, rfl⟩ := isetDecode_eq_some.mp h
  obtain ⟨hmem, _, _⟩ := mem_isetLines.mp (hlines ▸ List.mem_singleton_self e)
  exact isetPriv_le hc (entry_levelsWithin hc hmem)

/-- Settles O19: the instruction's own level lies above OPL and within PL_MAX, so that OPL + 1 does too. -/
theorem insufficientPrivilegeTraps : Obligations.InsufficientPrivilegeTraps := by
  intro w s op hwf hop hpriv
  have hlt : s.opl < s.impl.plMax := Nat.lt_of_lt_of_le hpriv (isetPriv_le_of_isetDecode hwf hop)
  exact ⟨succ_le_insufficientAt _ _, insufficientAt_le hwf hlt, levelOf_insufficientPrivilege,
    _, (exec_decodeWord w s).trans (perform_of_isetDecode hop), tookException_attempt s hpriv _ _⟩

/-- A named row makes the check of its instruction of ISET. -/
theorem namedRow_traps {op : Op} {j : Instr} {s : State} (hj : instrOf op = some j) (hpriv : s.opl < isetPriv s.impl op) :
    ∃ t, exec j s = .next t ∧
      TookException .insufficientPrivilege (s.impl.levelOf s.opl .insufficientPrivilege) s t :=
  ⟨_, exec_instrOf hj s, tookException_attempt s hpriv _ _⟩

theorem privilegedState_traps {o : PrivOp} {s : State} (hpriv : s.opl < privLevel o) :
    ∃ t, exec (.privilegedState ⟨o⟩) s = .next t ∧
      TookException .insufficientPrivilege (s.impl.levelOf s.opl .insufficientPrivilege) s t :=
  namedRow_traps (op := .privilegedState ⟨o⟩) rfl hpriv

/-- Apart from interrupt-sending and privileged state, the level of a named row is that which the table gives it. -/
theorem isetPriv_namedRow {op : Op} {j : Instr} (hj : instrOf op = some j) (hsend : ∀ o, op ≠ .sendInterrupt o)
    (hstate : ∀ o, op ≠ .privilegedState o) (c : Impl) : isetPriv c op = op.privField := by
  cases op with
  | sendInterrupt o => exact absurd rfl (hsend o)
  | privilegedState o => exact absurd rfl (hstate o)
  | composite o => cases hj
  | _ => rfl

/-- Settles O20: the level that each row checks is `isetPriv` of its instruction. -/
theorem namedRowsCheckPrivilege : Obligations.NamedRowsCheckPrivilege := by
  intro s
  refine ⟨levelOf_insufficientPrivilege, fun op j hj hsend hstate hpriv => ?_, fun hlt o => ?_, fun p hlt => ?_, fun hlt => ?_⟩
  · exact namedRow_traps hj (by rwa [isetPriv_namedRow hj hsend hstate])
  · exact namedRow_traps (op := .sendInterrupt o) rfl hlt
  · exact ⟨fun src => ⟨privilegedState_traps hlt, privilegedState_traps hlt⟩, fun f dst => privilegedState_traps hlt,
      fun f dst => privilegedState_traps hlt, fun f src => privilegedState_traps hlt, fun f src => privilegedState_traps hlt,
      privilegedState_traps hlt, privilegedState_traps hlt, fun target => privilegedState_traps hlt⟩
  · exact ⟨fun on => privilegedState_traps hlt, privilegedState_traps hlt⟩

/-! ### Step 0 -/

section

variable {s : State} (hxie : s.xie = true) (hpending : s.xpend ≠ [])

include hxie hpending

theorem interruptTurn_taken {p : Nat} (h : s.xpend[Config.freeChoice s.free]? = some p) :
    s.interruptTurn = (true, (((s.drawn).setXpend (s.xpend.eraseIdx (Config.freeChoice s.free))).decidedAt
      [.priv .xie]).interruptEntry p) := by
  simp [State.interruptTurn, hxie, hpending, h]

theorem interruptTurn_declined (h : s.xpend[Config.freeChoice s.free]? = none) : s.interruptTurn = (false, s.drawn) := by
  simp [State.interruptTurn, hxie, hpending, h]

end

/-- Which interrupts are pending, and the free values drawn, is nothing that interrupt entry saves or goes by. -/
theorem tookInterrupt_drawn_setXpend (l : List Nat) {p : Nat} {a : Word} {k : Fin 4} {s t : State} :
    TookInterrupt p a k (s.drawn.setXpend l) t ↔ TookInterrupt p a k s t := Iff.rfl

/-- Settles O8: what the free choice names leaves the pending ones before its handler is entered; where it names none, step 1 follows. -/
theorem pendingInterruptMayBeTaken : Obligations.PendingInterruptMayBeTaken := by
  intro s hxie hpending
  refine ⟨fun p hp => ?_, fun hnone => ?_⟩
  · refine ⟨_, step_interrupt (interruptTurn_taken hxie hpending hp), ?_, ?_⟩
    · exact (tookInterrupt_drawn_setXpend _).mp (tookInterrupt_interruptEntry _ _ p)
    · rw [State.interruptEntry_eq]; rfl
  · have hturn := interruptTurn_declined hxie hpending hnone
    exact ⟨fun i s1 hf => step_decoded hturn hf, fun x s1 hf => step_reserved hturn hf⟩

end Sys2Proof.Machine
end

section
/-! PROOFS. Exception entry (O53), the two returns (O50), and that a return undoes the entry of its level (O54). -/

namespace Sys2Proof.Machine

open Sys2Proof

/-- Settles O53: entry from the state as it stands, with no free value drawn and no dependence decided before it. -/
theorem trapEntryWrites : Obligations.TrapEntryWrites := fun s x p => tookException_trapEntry s s.free s.depend x p

/-- An operation that restores OPL and leaves for a place in the program does nothing else: its step ends where it leads, with the
dependences recorded. -/
theorem exec_privilegedReturn {s : State} {op : PrivOp} {q : Nat} {a : Word} {k : Fin 4} (hp : privLevel op ≤ s.opl)
    (heffect : privilegedEffect ⟨op⟩ s = ⟨(s.setOpl q).setSequence (trunc s.impl a) k .transfer, .done⟩) :
    ∃ t, exec (.privilegedState ⟨op⟩) s = .next t ∧
      t.opl = q ∧ t.ipmar = trunc s.impl a ∧ t.iidx = k ∧ t.entry = .transfer ∧ t.xie = s.xie ∧ t.xpend = s.xpend ∧
      t.trace = s.trace ∧ SameLevelState s t ∧ SameRegisters s t ∧ SameMemory s t ∧ SameOutside s t := by
  have hruns := exec_privilegedState_allowed hp
  rw [heffect] at hruns
  refine ⟨s.track (privilegedFlow ⟨op⟩) ((s.setOpl q).setSequence (trunc s.impl a) k .transfer), hruns, ?_⟩
  rw [s.track_eq]
  exact ⟨rfl, rfl, rfl, rfl, rfl, rfl, rfl, ⟨fun _ => rfl, fun _ => rfl, fun _ => rfl, fun _ => rfl⟩,
    sameRegisters_of_eq rfl rfl rfl, ⟨fun _ => rfl, rfl, rfl⟩, rfl, rfl⟩

/-- Settles O50: both returns are a restored OPL and a transfer, with what their save set holds. -/
theorem returnsComplete : Obligations.ReturnsComplete := fun _ _ hp =>
  ⟨exec_privilegedReturn hp rfl, exec_privilegedReturn hp rfl⟩

theorem sameRegisters_trans {s u t : State} (h : SameRegisters s u) (k : SameRegisters u t) : SameRegisters s t := by
  obtain ⟨hgpr, hrnr, hcr⟩ := h
  obtain ⟨kgpr, krnr, kcr⟩ := k
  exact ⟨fun g => (kgpr g).trans (hgpr g), fun r => (krnr r).trans (hrnr r), fun i => (kcr i).trans (hcr i)⟩

/-- Settles O54: the handler runs at the entry's level or above, so that the return completes, with what entry saved. -/
theorem returnUndoesEntry : Obligations.ReturnUndoesEntry := by
  refine fun s t p hp => ⟨fun x hentry => ?_, fun a k hentry => ?_⟩
  · obtain ⟨hsave, _, hxie, hopl, _, hregs, hmem, ⟨_, himpl⟩, _⟩ := hentry
    have hlevel : max 1 p ≤ t.opl := by omega
    obtain ⟨⟨u, hu, uopl, uipmar, uiidx, uentry, uxie, _, _, _, uregs, umem, _⟩, _⟩ := returnsComplete p t hlevel
    rw [hsave] at uopl uipmar uiidx
    exact ⟨u, hu, uopl, himpl ▸ uipmar, uiidx, uentry, uxie.trans hxie, sameRegisters_trans hregs uregs,
      sameMemory_trans hmem umem⟩
  · obtain ⟨hsave, _, hxie, hopl, _, hregs, hmem, ⟨_, himpl⟩, _⟩ := hentry
    have hlevel : max 1 p ≤ t.opl := by omega
    obtain ⟨_, u, hu, uopl, uipmar, uiidx, uentry, uxie, _, _, _, uregs, umem, _⟩ := returnsComplete p t hlevel
    rw [hsave] at uopl uipmar uiidx
    exact ⟨u, hu, uopl, himpl ▸ uipmar, uiidx, uentry, uxie.trans hxie, sameRegisters_trans hregs uregs,
      sameMemory_trans hmem umem⟩

end Sys2Proof.Machine
end
